-- ==== Sys2Proof/Word.lean ====
section
/-! DEFINITION. The word types of the SMX CORE: bytes of a bus word, 32-bit bus/command/SM3/SM4 words
(spec R8, R70, R100) and the 256-bit values of the operand registers (spec R8, R31). -/

namespace Sys2Proof

/-- One byte lane of a bus word (R77). -/
abbrev Byte := BitVec 8

/-- A 32-bit word: bus data (R70), a command word (R100), an SM3 or SM4 word (R8). -/
abbrev Word := BitVec 32

/-- A 256-bit register value; bit 0 is the least significant bit (R11, R31). -/
abbrev W256 := BitVec 256

end Sys2Proof
end

