-- ==== Sys2Proof/Syntax.lean ====
section
/-! DEFINITION. The commands of the SMX CORE as syntax: one constructor of `Instr` per row of the opcode
map (spec R105), the operands in the order of the row's assembler syntax (R101, R115). -/

namespace Sys2Proof

/-- Operand register number 0..15 (kinds rd, rs1, rs2, rs3 of R101). -/
abbrev RReg := Fin 16

/-- A register pair (R[k], R[k+1]) named by its register k (kinds rdp, rs1p of R101). The assembler
writes the register number; that it is even is checked by `Instr.wf` (R33, R103). -/
abbrev RPair := Fin 16

/-- Affine point register number 0..3 (kinds pd, ps1, ps2 of R101). -/
abbrev PReg := Fin 4

/-- Jacobian point register number 0..3 (kinds jd, js1 of R101). -/
abbrev JReg := Fin 4

/-- Constant-ROM index 0..7 (kind k3 of R101). -/
abbrev RomIndex := Fin 8

/-- Unsigned 8-bit immediate (kind i8 of R101). -/
abbrev Imm8 := BitVec 8

/-- The 55 commands (R105). -/
inductive Instr where
  -- 0x00–0x0F moves and constants
  | nop
  | mov (rd rs1 : RReg)
  | ldc (rd : RReg) (k : RomIndex)
  | ldi (rd : RReg) (imm : Imm8)
  -- 0x10–0x1F BigInt256
  | add (rd rs1 rs2 : RReg)
  | sub (rd rs1 rs2 : RReg)
  | mul (rdp : RPair) (rs1 rs2 : RReg)
  | sqr (rdp : RPair) (rs1 : RReg)
  | cmp (rs1 rs2 : RReg)
  | bitlen (rd rs1 : RReg)
  | getbit (rs1 : RReg) (i : Imm8)
  | shl1 (rd rs1 : RReg)
  | shr1 (rd rs1 : RReg)
  | and (rd rs1 rs2 : RReg)
  -- 0x20–0x2F modular arithmetic with an explicit modulus
  | madd (rd rs1 rs2 rs3 : RReg)
  | msub (rd rs1 rs2 rs3 : RReg)
  | mmul (rd rs1 rs2 rs3 : RReg)
  | msqr (rd rs1 rs3 : RReg)
  | minv (rd rs1 rs3 : RReg)
  | mpow (rd rs1 rs2 rs3 : RReg)
  | mred (rd : RReg) (rs1p : RPair) (rs3 : RReg)
  -- 0x30–0x3F arithmetic mod p
  | fred (rd : RReg) (rs1p : RPair)
  | fadd (rd rs1 rs2 : RReg)
  | fsub (rd rs1 rs2 : RReg)
  | fmul (rd rs1 rs2 : RReg)
  | fsqr (rd rs1 : RReg)
  | fneg (rd rs1 : RReg)
  | finv (rd rs1 : RReg)
  | fnorm (rd rs1 : RReg)
  -- 0x40–0x4F elliptic-curve points
  | pld (pd : PReg) (rs1 rs2 : RReg)
  | pst (rdp : RPair) (ps1 : PReg)
  | pinf (pd : PReg)
  | pldg (pd : PReg)
  | pchk (ps1 : PReg)
  | pneg (pd ps1 : PReg)
  | padd (pd ps1 ps2 : PReg)
  | pdbl (pd ps1 : PReg)
  | pmul (pd ps1 : PReg) (rs2 : RReg)
  | peq (ps1 ps2 : PReg)
  | jfrom (jd : JReg) (ps1 : PReg)
  | jtoa (pd : PReg) (js1 : JReg)
  | jdbl (jd js1 : JReg)
  | jaddm (jd js1 : JReg) (ps2 : PReg)
  -- 0x50–0x5F SM3
  | sm3init
  | sm3cf (rs1p : RPair)
  | sm3rd (rd : RReg)
  | sm3wr (rs1 : RReg)
  -- 0x60–0x6F SM4
  | sm4key (rs1 : RReg)
  | sm4enc (rd rs1 : RReg)
  | sm4dec (rd rs1 : RReg)
  | sm4t (rd rs1 : RReg)
  | sm4tk (rd rs1 : RReg)
  | sm4sb (rd rs1 : RReg)
  | sm4l (rd rs1 : RReg)
  | sm4lk (rd rs1 : RReg)
  deriving DecidableEq, Repr

/-! The pseudo-instructions, each one command (R116). -/

/-- `CLR rd` is `LDI rd, #0` (R116). -/
def Instr.pseudoClr (rd : RReg) : Instr := .ldi rd 0

/-- `ONE rd` is `LDI rd, #1` (R116). -/
def Instr.pseudoOne (rd : RReg) : Instr := .ldi rd 1

/-- `LDP rd` is `LDC rd, #0` (R116). -/
def Instr.pseudoLdp (rd : RReg) : Instr := .ldc rd 0

/-- `LDN rd` is `LDC rd, #3` (R116). -/
def Instr.pseudoLdn (rd : RReg) : Instr := .ldc rd 3

/-- `TST rs1, #i` is `GETBIT rs1, #i` (R116). -/
def Instr.pseudoTst (rs1 : RReg) (i : Imm8) : Instr := .getbit rs1 i

end Sys2Proof
end

