-- ==== Sys2Proof/WellFormed.lean ====
section
/-! DEFINITION. Which syntax terms are commands: a register pair is named by an even register (spec R33,
R101, R103). Every other bound of R101 is carried by the operand's type. -/

namespace Sys2Proof

/-- A pair field holds an even register number (R103). -/
def pairEven (k : RPair) : Bool := k.val % 2 == 0

/-- The well-formed commands: those the encoding can spell (R101, R103, R110). -/
def Instr.wf : Instr → Bool
  | .nop => true
  | .mov _ _ => true
  | .ldc _ _ => true
  | .ldi _ _ => true
  | .add _ _ _ => true
  | .sub _ _ _ => true
  | .mul rdp _ _ => pairEven rdp
  | .sqr rdp _ => pairEven rdp
  | .cmp _ _ => true
  | .bitlen _ _ => true
  | .getbit _ _ => true
  | .shl1 _ _ => true
  | .shr1 _ _ => true
  | .and _ _ _ => true
  | .madd _ _ _ _ => true
  | .msub _ _ _ _ => true
  | .mmul _ _ _ _ => true
  | .msqr _ _ _ => true
  | .minv _ _ _ => true
  | .mpow _ _ _ _ => true
  | .mred _ rs1p _ => pairEven rs1p
  | .fred _ rs1p => pairEven rs1p
  | .fadd _ _ _ => true
  | .fsub _ _ _ => true
  | .fmul _ _ _ => true
  | .fsqr _ _ => true
  | .fneg _ _ => true
  | .finv _ _ => true
  | .fnorm _ _ => true
  | .pld _ _ _ => true
  | .pst rdp _ => pairEven rdp
  | .pinf _ => true
  | .pldg _ => true
  | .pchk _ => true
  | .pneg _ _ => true
  | .padd _ _ _ => true
  | .pdbl _ _ => true
  | .pmul _ _ _ => true
  | .peq _ _ => true
  | .jfrom _ _ => true
  | .jtoa _ _ => true
  | .jdbl _ _ => true
  | .jaddm _ _ _ => true
  | .sm3init => true
  | .sm3cf rs1p => pairEven rs1p
  | .sm3rd _ => true
  | .sm3wr _ => true
  | .sm4key _ => true
  | .sm4enc _ _ => true
  | .sm4dec _ _ => true
  | .sm4t _ _ => true
  | .sm4tk _ _ => true
  | .sm4sb _ _ => true
  | .sm4l _ _ => true
  | .sm4lk _ _ => true

end Sys2Proof
end

