-- ==== Sys2Proof/Decode.lean ====
section
/-! DEFINITION. The command encoding (spec R100 to R114): the fields of the 32-bit word, the opcode map of
R105 row by row, the total decoder, the encoder, the assembler's text of a command and its
pseudo-instructions (R115, R116), and `decodeTableWord`. -/

namespace Sys2Proof

/-! ## Fields of a command word (R100) -/

/-- OP, bits [7:0]. -/
def opOf (w : Word) : BitVec 8 := w.extractLsb' 0 8

/-- RD, bits [11:8]. -/
def rdOf (w : Word) : BitVec 4 := w.extractLsb' 8 4

/-- RS1, bits [15:12]. -/
def rs1Of (w : Word) : BitVec 4 := w.extractLsb' 12 4

/-- RS2, bits [19:16]. -/
def rs2Of (w : Word) : BitVec 4 := w.extractLsb' 16 4

/-- RS3, bits [23:20]. -/
def rs3Of (w : Word) : BitVec 4 := w.extractLsb' 20 4

/-- IMM, bits [31:24]. -/
def immOf (w : Word) : BitVec 8 := w.extractLsb' 24 8

/-- A 4-bit field as an operand register number (R101). -/
def reg (f : BitVec 4) : RReg := Fin.ofNat 16 f.toNat

/-- A point-register field uses its two low bits (R103). -/
def pt (f : BitVec 4) : PReg := Fin.ofNat 4 f.toNat

/-- IMM bits [26:24] as a constant-ROM index (R132). -/
def romIdx (w : Word) : RomIndex := Fin.ofNat 8 (immOf w).toNat

/-! ## The opcode map (R101, R105) -/

/-- How a command uses one field (R101, R103). -/
inductive FieldUse where
  | unused
  | reg
  | pair
  | point
  | romIndex
  | imm8
  deriving DecidableEq, Repr

/-- The use of the five operand fields, in the order RD, RS1, RS2, RS3, IMM. -/
structure FieldUses where
  rd : FieldUse
  rs1 : FieldUse
  rs2 : FieldUse
  rs3 : FieldUse
  imm : FieldUse
  deriving DecidableEq, Repr

/-- One row of the opcode map (R105): the mnemonic, mask and match, how the fields are used, and the
command that a matching word spells. -/
structure Row where
  mnemonic : String
  mask : Word
  mtch : Word
  uses : FieldUses
  build : Word → Instr

/-- Rows of the opcode map: moves and constants, 0x00–0x0F (R105). -/
def rowsMove : List Row :=
  [
    ⟨"NOP", 0xFFFFFFFF#32, 0x00000000#32, ⟨.unused, .unused, .unused, .unused, .unused⟩, fun _ => .nop⟩,
    ⟨"MOV", 0xFFFF00FF#32, 0x00000001#32, ⟨.reg, .reg, .unused, .unused, .unused⟩, fun w => .mov (reg (rdOf w)) (reg (rs1Of w))⟩,
    ⟨"LDC", 0xF8FFF0FF#32, 0x00000002#32, ⟨.reg, .unused, .unused, .unused, .romIndex⟩, fun w => .ldc (reg (rdOf w)) (romIdx w)⟩,
    ⟨"LDI", 0x00FFF0FF#32, 0x00000003#32, ⟨.reg, .unused, .unused, .unused, .imm8⟩, fun w => .ldi (reg (rdOf w)) (immOf w)⟩
  ]

/-- Rows of the opcode map: BigInt256, 0x10–0x1F (R105). -/
def rowsBigInt : List Row :=
  [
    ⟨"ADD", 0xFFF000FF#32, 0x00000010#32, ⟨.reg, .reg, .reg, .unused, .unused⟩, fun w => .add (reg (rdOf w)) (reg (rs1Of w)) (reg (rs2Of w))⟩,
    ⟨"SUB", 0xFFF000FF#32, 0x00000011#32, ⟨.reg, .reg, .reg, .unused, .unused⟩, fun w => .sub (reg (rdOf w)) (reg (rs1Of w)) (reg (rs2Of w))⟩,
    ⟨"MUL", 0xFFF001FF#32, 0x00000012#32, ⟨.pair, .reg, .reg, .unused, .unused⟩, fun w => .mul (reg (rdOf w)) (reg (rs1Of w)) (reg (rs2Of w))⟩,
    ⟨"SQR", 0xFFFF01FF#32, 0x00000013#32, ⟨.pair, .reg, .unused, .unused, .unused⟩, fun w => .sqr (reg (rdOf w)) (reg (rs1Of w))⟩,
    ⟨"CMP", 0xFFF00FFF#32, 0x00000014#32, ⟨.unused, .reg, .reg, .unused, .unused⟩, fun w => .cmp (reg (rs1Of w)) (reg (rs2Of w))⟩,
    ⟨"BITLEN", 0xFFFF00FF#32, 0x00000015#32, ⟨.reg, .reg, .unused, .unused, .unused⟩, fun w => .bitlen (reg (rdOf w)) (reg (rs1Of w))⟩,
    ⟨"GETBIT", 0x00FF0FFF#32, 0x00000016#32, ⟨.unused, .reg, .unused, .unused, .imm8⟩, fun w => .getbit (reg (rs1Of w)) (immOf w)⟩,
    ⟨"SHL1", 0xFFFF00FF#32, 0x00000017#32, ⟨.reg, .reg, .unused, .unused, .unused⟩, fun w => .shl1 (reg (rdOf w)) (reg (rs1Of w))⟩,
    ⟨"SHR1", 0xFFFF00FF#32, 0x00000018#32, ⟨.reg, .reg, .unused, .unused, .unused⟩, fun w => .shr1 (reg (rdOf w)) (reg (rs1Of w))⟩,
    ⟨"AND", 0xFFF000FF#32, 0x00000019#32, ⟨.reg, .reg, .reg, .unused, .unused⟩, fun w => .and (reg (rdOf w)) (reg (rs1Of w)) (reg (rs2Of w))⟩
  ]

/-- Rows of the opcode map: modular arithmetic, 0x20–0x2F (R105). -/
def rowsModular : List Row :=
  [
    ⟨"MADD", 0xFF0000FF#32, 0x00000020#32, ⟨.reg, .reg, .reg, .reg, .unused⟩, fun w => .madd (reg (rdOf w)) (reg (rs1Of w)) (reg (rs2Of w)) (reg (rs3Of w))⟩,
    ⟨"MSUB", 0xFF0000FF#32, 0x00000021#32, ⟨.reg, .reg, .reg, .reg, .unused⟩, fun w => .msub (reg (rdOf w)) (reg (rs1Of w)) (reg (rs2Of w)) (reg (rs3Of w))⟩,
    ⟨"MMUL", 0xFF0000FF#32, 0x00000022#32, ⟨.reg, .reg, .reg, .reg, .unused⟩, fun w => .mmul (reg (rdOf w)) (reg (rs1Of w)) (reg (rs2Of w)) (reg (rs3Of w))⟩,
    ⟨"MSQR", 0xFF0F00FF#32, 0x00000023#32, ⟨.reg, .reg, .unused, .reg, .unused⟩, fun w => .msqr (reg (rdOf w)) (reg (rs1Of w)) (reg (rs3Of w))⟩,
    ⟨"MINV", 0xFF0F00FF#32, 0x00000024#32, ⟨.reg, .reg, .unused, .reg, .unused⟩, fun w => .minv (reg (rdOf w)) (reg (rs1Of w)) (reg (rs3Of w))⟩,
    ⟨"MPOW", 0xFF0000FF#32, 0x00000025#32, ⟨.reg, .reg, .reg, .reg, .unused⟩, fun w => .mpow (reg (rdOf w)) (reg (rs1Of w)) (reg (rs2Of w)) (reg (rs3Of w))⟩,
    ⟨"MRED", 0xFF0F10FF#32, 0x00000026#32, ⟨.reg, .pair, .unused, .reg, .unused⟩, fun w => .mred (reg (rdOf w)) (reg (rs1Of w)) (reg (rs3Of w))⟩
  ]

/-- Rows of the opcode map: arithmetic mod p, 0x30–0x3F (R105). -/
def rowsField : List Row :=
  [
    ⟨"FRED", 0xFFFF10FF#32, 0x00000030#32, ⟨.reg, .pair, .unused, .unused, .unused⟩, fun w => .fred (reg (rdOf w)) (reg (rs1Of w))⟩,
    ⟨"FADD", 0xFFF000FF#32, 0x00000031#32, ⟨.reg, .reg, .reg, .unused, .unused⟩, fun w => .fadd (reg (rdOf w)) (reg (rs1Of w)) (reg (rs2Of w))⟩,
    ⟨"FSUB", 0xFFF000FF#32, 0x00000032#32, ⟨.reg, .reg, .reg, .unused, .unused⟩, fun w => .fsub (reg (rdOf w)) (reg (rs1Of w)) (reg (rs2Of w))⟩,
    ⟨"FMUL", 0xFFF000FF#32, 0x00000033#32, ⟨.reg, .reg, .reg, .unused, .unused⟩, fun w => .fmul (reg (rdOf w)) (reg (rs1Of w)) (reg (rs2Of w))⟩,
    ⟨"FSQR", 0xFFFF00FF#32, 0x00000034#32, ⟨.reg, .reg, .unused, .unused, .unused⟩, fun w => .fsqr (reg (rdOf w)) (reg (rs1Of w))⟩,
    ⟨"FNEG", 0xFFFF00FF#32, 0x00000035#32, ⟨.reg, .reg, .unused, .unused, .unused⟩, fun w => .fneg (reg (rdOf w)) (reg (rs1Of w))⟩,
    ⟨"FINV", 0xFFFF00FF#32, 0x00000036#32, ⟨.reg, .reg, .unused, .unused, .unused⟩, fun w => .finv (reg (rdOf w)) (reg (rs1Of w))⟩,
    ⟨"FNORM", 0xFFFF00FF#32, 0x00000037#32, ⟨.reg, .reg, .unused, .unused, .unused⟩, fun w => .fnorm (reg (rdOf w)) (reg (rs1Of w))⟩
  ]

/-- Rows of the opcode map: elliptic-curve points, 0x40–0x4F (R105). -/
def rowsPoint : List Row :=
  [
    ⟨"PLD", 0xFFF00CFF#32, 0x00000040#32, ⟨.point, .reg, .reg, .unused, .unused⟩, fun w => .pld (pt (rdOf w)) (reg (rs1Of w)) (reg (rs2Of w))⟩,
    ⟨"PST", 0xFFFFC1FF#32, 0x00000041#32, ⟨.pair, .point, .unused, .unused, .unused⟩, fun w => .pst (reg (rdOf w)) (pt (rs1Of w))⟩,
    ⟨"PINF", 0xFFFFFCFF#32, 0x00000042#32, ⟨.point, .unused, .unused, .unused, .unused⟩, fun w => .pinf (pt (rdOf w))⟩,
    ⟨"PLDG", 0xFFFFFCFF#32, 0x00000043#32, ⟨.point, .unused, .unused, .unused, .unused⟩, fun w => .pldg (pt (rdOf w))⟩,
    ⟨"PCHK", 0xFFFFCFFF#32, 0x00000044#32, ⟨.unused, .point, .unused, .unused, .unused⟩, fun w => .pchk (pt (rs1Of w))⟩,
    ⟨"PNEG", 0xFFFFCCFF#32, 0x00000045#32, ⟨.point, .point, .unused, .unused, .unused⟩, fun w => .pneg (pt (rdOf w)) (pt (rs1Of w))⟩,
    ⟨"PADD", 0xFFFCCCFF#32, 0x00000046#32, ⟨.point, .point, .point, .unused, .unused⟩, fun w => .padd (pt (rdOf w)) (pt (rs1Of w)) (pt (rs2Of w))⟩,
    ⟨"PDBL", 0xFFFFCCFF#32, 0x00000047#32, ⟨.point, .point, .unused, .unused, .unused⟩, fun w => .pdbl (pt (rdOf w)) (pt (rs1Of w))⟩,
    ⟨"PMUL", 0xFFF0CCFF#32, 0x00000048#32, ⟨.point, .point, .reg, .unused, .unused⟩, fun w => .pmul (pt (rdOf w)) (pt (rs1Of w)) (reg (rs2Of w))⟩,
    ⟨"PEQ", 0xFFFCCFFF#32, 0x00000049#32, ⟨.unused, .point, .point, .unused, .unused⟩, fun w => .peq (pt (rs1Of w)) (pt (rs2Of w))⟩,
    ⟨"JFROM", 0xFFFFCCFF#32, 0x0000004A#32, ⟨.point, .point, .unused, .unused, .unused⟩, fun w => .jfrom (pt (rdOf w)) (pt (rs1Of w))⟩,
    ⟨"JTOA", 0xFFFFCCFF#32, 0x0000004B#32, ⟨.point, .point, .unused, .unused, .unused⟩, fun w => .jtoa (pt (rdOf w)) (pt (rs1Of w))⟩,
    ⟨"JDBL", 0xFFFFCCFF#32, 0x0000004C#32, ⟨.point, .point, .unused, .unused, .unused⟩, fun w => .jdbl (pt (rdOf w)) (pt (rs1Of w))⟩,
    ⟨"JADDM", 0xFFFCCCFF#32, 0x0000004D#32, ⟨.point, .point, .point, .unused, .unused⟩, fun w => .jaddm (pt (rdOf w)) (pt (rs1Of w)) (pt (rs2Of w))⟩
  ]

/-- Rows of the opcode map: SM3, 0x50–0x5F (R105). -/
def rowsSm3 : List Row :=
  [
    ⟨"SM3INIT", 0xFFFFFFFF#32, 0x00000050#32, ⟨.unused, .unused, .unused, .unused, .unused⟩, fun _ => .sm3init⟩,
    ⟨"SM3CF", 0xFFFF1FFF#32, 0x00000051#32, ⟨.unused, .pair, .unused, .unused, .unused⟩, fun w => .sm3cf (reg (rs1Of w))⟩,
    ⟨"SM3RD", 0xFFFFF0FF#32, 0x00000052#32, ⟨.reg, .unused, .unused, .unused, .unused⟩, fun w => .sm3rd (reg (rdOf w))⟩,
    ⟨"SM3WR", 0xFFFF0FFF#32, 0x00000053#32, ⟨.unused, .reg, .unused, .unused, .unused⟩, fun w => .sm3wr (reg (rs1Of w))⟩
  ]

/-- Rows of the opcode map: SM4, 0x60–0x6F (R105). -/
def rowsSm4 : List Row :=
  [
    ⟨"SM4KEY", 0xFFFF0FFF#32, 0x00000060#32, ⟨.unused, .reg, .unused, .unused, .unused⟩, fun w => .sm4key (reg (rs1Of w))⟩,
    ⟨"SM4ENC", 0xFFFF00FF#32, 0x00000061#32, ⟨.reg, .reg, .unused, .unused, .unused⟩, fun w => .sm4enc (reg (rdOf w)) (reg (rs1Of w))⟩,
    ⟨"SM4DEC", 0xFFFF00FF#32, 0x00000062#32, ⟨.reg, .reg, .unused, .unused, .unused⟩, fun w => .sm4dec (reg (rdOf w)) (reg (rs1Of w))⟩,
    ⟨"SM4T", 0xFFFF00FF#32, 0x00000063#32, ⟨.reg, .reg, .unused, .unused, .unused⟩, fun w => .sm4t (reg (rdOf w)) (reg (rs1Of w))⟩,
    ⟨"SM4TK", 0xFFFF00FF#32, 0x00000064#32, ⟨.reg, .reg, .unused, .unused, .unused⟩, fun w => .sm4tk (reg (rdOf w)) (reg (rs1Of w))⟩,
    ⟨"SM4SB", 0xFFFF00FF#32, 0x00000065#32, ⟨.reg, .reg, .unused, .unused, .unused⟩, fun w => .sm4sb (reg (rdOf w)) (reg (rs1Of w))⟩,
    ⟨"SM4L", 0xFFFF00FF#32, 0x00000066#32, ⟨.reg, .reg, .unused, .unused, .unused⟩, fun w => .sm4l (reg (rdOf w)) (reg (rs1Of w))⟩,
    ⟨"SM4LK", 0xFFFF00FF#32, 0x00000067#32, ⟨.reg, .reg, .unused, .unused, .unused⟩, fun w => .sm4lk (reg (rdOf w)) (reg (rs1Of w))⟩
  ]

/-- The opcode map, one row per command (R105). -/
def opcodeTable : List Row :=
  rowsMove ++ rowsBigInt ++ rowsModular ++ rowsField ++ rowsPoint ++ rowsSm3 ++ rowsSm4

/-! ## Decoding (R104, R110 to R112) -/

/-- Why a word or a byte string spells no command: the causes R110 lists, and a byte string that is too
short to hold a command word. The name is a diagnostic of the model; the block reports all of them as
ILLEGAL (R113). -/
inductive Reject where
  /-- The OP value is in no row (R107). -/
  | reservedOp
  /-- A pair field holds an odd register number (R103). -/
  | oddPair
  /-- A point-register field is above 3 (R103). -/
  | pointAboveThree
  /-- An LDC index is above 7 (R103). -/
  | romIndexAboveSeven
  /-- A field the command does not use is not 0 (R103). -/
  | unusedFieldNonzero
  /-- Fewer than four bytes. -/
  | truncated
  deriving DecidableEq, Repr

/-- One 4-bit register field's breach of R103, if any. -/
def FieldUse.breach (u : FieldUse) (f : BitVec 4) : Option Reject :=
  match u with
  | .unused => if f = 0 then none else some .unusedFieldNonzero
  | .reg => none
  | .pair => if f.toNat % 2 = 0 then none else some .oddPair
  | .point => if f.toNat < 4 then none else some .pointAboveThree
  | .romIndex => none
  | .imm8 => none

/-- The IMM field's breach of R103, if any. -/
def FieldUse.breachImm (u : FieldUse) (f : BitVec 8) : Option Reject :=
  match u with
  | .unused => if f = 0 then none else some .unusedFieldNonzero
  | .reg => none
  | .pair => none
  | .point => none
  | .romIndex => if f.toNat < 8 then none else some .romIndexAboveSeven
  | .imm8 => none

/-- The name under which a word with this row's OP but not its mask and match is rejected. -/
def Row.rejection (row : Row) (w : Word) : Reject :=
  ((row.uses.rd.breach (rdOf w)).orElse fun _ =>
    (row.uses.rs1.breach (rs1Of w)).orElse fun _ =>
    (row.uses.rs2.breach (rs2Of w)).orElse fun _ =>
    (row.uses.rs3.breach (rs3Of w)).orElse fun _ =>
    row.uses.imm.breachImm (immOf w)).getD .unusedFieldNonzero

/-- The row with a word's OP value; there is at most one (R104). -/
def rowOf (w : Word) : Option Row :=
  opcodeTable.find? fun row => opOf row.mtch == opOf w

/-- The decoder (R104, R112): a word spells the command of the row with (w & mask) = match, and every
other word is rejected by name. -/
def decodeWord (w : Word) : Except Reject Instr :=
  match rowOf w with
  | none => .error .reservedOp
  | some row => if w &&& row.mask = row.mtch then .ok (row.build w) else .error (row.rejection w)

/-- Four byte lanes as a bus word, lane j in bits [8j+7:8j] (R77, R100). -/
def wordOfBytes (b0 b1 b2 b3 : Byte) : Word := b3 ++ b2 ++ b1 ++ b0

/-- The byte lanes of a word, lane 0 first (R77). -/
def bytesOfWord (w : Word) : List Byte :=
  [w.extractLsb' 0 8, w.extractLsb' 8 8, w.extractLsb' 16 8, w.extractLsb' 24 8]

/-- The decoder on any bytes: every command is four bytes long (R100, R114). -/
def decode : List Byte → Except Reject (Instr × List Byte)
  | b0 :: b1 :: b2 :: b3 :: rest =>
    match decodeWord (wordOfBytes b0 b1 b2 b3) with
    | .ok i => .ok (i, rest)
    | .error e => .error e
  | _ => .error .truncated

/-! ## Encoding (R100, R105) -/

/-- A command word from its six fields (R100). -/
def cmdWord (op : BitVec 8) (rd rs1 rs2 rs3 : BitVec 4) (imm : BitVec 8) : Word :=
  imm ++ rs3 ++ rs2 ++ rs1 ++ rd ++ op

/-- A register number in a 4-bit field. -/
def fld (n : Nat) : BitVec 4 := BitVec.ofNat 4 n

/-- The command word of an instruction: its opcode and operands in the fields of R100, every other
bit 0 (R103, R105). -/
def encode : Instr → Word
  | .nop => cmdWord 0x00 0 0 0 0 0
  | .mov rd rs1 => cmdWord 0x01 (fld rd.val) (fld rs1.val) 0 0 0
  | .ldc rd k => cmdWord 0x02 (fld rd.val) 0 0 0 (BitVec.ofNat 8 k.val)
  | .ldi rd imm => cmdWord 0x03 (fld rd.val) 0 0 0 imm
  | .add rd rs1 rs2 => cmdWord 0x10 (fld rd.val) (fld rs1.val) (fld rs2.val) 0 0
  | .sub rd rs1 rs2 => cmdWord 0x11 (fld rd.val) (fld rs1.val) (fld rs2.val) 0 0
  | .mul rdp rs1 rs2 => cmdWord 0x12 (fld rdp.val) (fld rs1.val) (fld rs2.val) 0 0
  | .sqr rdp rs1 => cmdWord 0x13 (fld rdp.val) (fld rs1.val) 0 0 0
  | .cmp rs1 rs2 => cmdWord 0x14 0 (fld rs1.val) (fld rs2.val) 0 0
  | .bitlen rd rs1 => cmdWord 0x15 (fld rd.val) (fld rs1.val) 0 0 0
  | .getbit rs1 i => cmdWord 0x16 0 (fld rs1.val) 0 0 i
  | .shl1 rd rs1 => cmdWord 0x17 (fld rd.val) (fld rs1.val) 0 0 0
  | .shr1 rd rs1 => cmdWord 0x18 (fld rd.val) (fld rs1.val) 0 0 0
  | .and rd rs1 rs2 => cmdWord 0x19 (fld rd.val) (fld rs1.val) (fld rs2.val) 0 0
  | .madd rd rs1 rs2 rs3 => cmdWord 0x20 (fld rd.val) (fld rs1.val) (fld rs2.val) (fld rs3.val) 0
  | .msub rd rs1 rs2 rs3 => cmdWord 0x21 (fld rd.val) (fld rs1.val) (fld rs2.val) (fld rs3.val) 0
  | .mmul rd rs1 rs2 rs3 => cmdWord 0x22 (fld rd.val) (fld rs1.val) (fld rs2.val) (fld rs3.val) 0
  | .msqr rd rs1 rs3 => cmdWord 0x23 (fld rd.val) (fld rs1.val) 0 (fld rs3.val) 0
  | .minv rd rs1 rs3 => cmdWord 0x24 (fld rd.val) (fld rs1.val) 0 (fld rs3.val) 0
  | .mpow rd rs1 rs2 rs3 => cmdWord 0x25 (fld rd.val) (fld rs1.val) (fld rs2.val) (fld rs3.val) 0
  | .mred rd rs1p rs3 => cmdWord 0x26 (fld rd.val) (fld rs1p.val) 0 (fld rs3.val) 0
  | .fred rd rs1p => cmdWord 0x30 (fld rd.val) (fld rs1p.val) 0 0 0
  | .fadd rd rs1 rs2 => cmdWord 0x31 (fld rd.val) (fld rs1.val) (fld rs2.val) 0 0
  | .fsub rd rs1 rs2 => cmdWord 0x32 (fld rd.val) (fld rs1.val) (fld rs2.val) 0 0
  | .fmul rd rs1 rs2 => cmdWord 0x33 (fld rd.val) (fld rs1.val) (fld rs2.val) 0 0
  | .fsqr rd rs1 => cmdWord 0x34 (fld rd.val) (fld rs1.val) 0 0 0
  | .fneg rd rs1 => cmdWord 0x35 (fld rd.val) (fld rs1.val) 0 0 0
  | .finv rd rs1 => cmdWord 0x36 (fld rd.val) (fld rs1.val) 0 0 0
  | .fnorm rd rs1 => cmdWord 0x37 (fld rd.val) (fld rs1.val) 0 0 0
  | .pld pd rs1 rs2 => cmdWord 0x40 (fld pd.val) (fld rs1.val) (fld rs2.val) 0 0
  | .pst rdp ps1 => cmdWord 0x41 (fld rdp.val) (fld ps1.val) 0 0 0
  | .pinf pd => cmdWord 0x42 (fld pd.val) 0 0 0 0
  | .pldg pd => cmdWord 0x43 (fld pd.val) 0 0 0 0
  | .pchk ps1 => cmdWord 0x44 0 (fld ps1.val) 0 0 0
  | .pneg pd ps1 => cmdWord 0x45 (fld pd.val) (fld ps1.val) 0 0 0
  | .padd pd ps1 ps2 => cmdWord 0x46 (fld pd.val) (fld ps1.val) (fld ps2.val) 0 0
  | .pdbl pd ps1 => cmdWord 0x47 (fld pd.val) (fld ps1.val) 0 0 0
  | .pmul pd ps1 rs2 => cmdWord 0x48 (fld pd.val) (fld ps1.val) (fld rs2.val) 0 0
  | .peq ps1 ps2 => cmdWord 0x49 0 (fld ps1.val) (fld ps2.val) 0 0
  | .jfrom jd ps1 => cmdWord 0x4A (fld jd.val) (fld ps1.val) 0 0 0
  | .jtoa pd js1 => cmdWord 0x4B (fld pd.val) (fld js1.val) 0 0 0
  | .jdbl jd js1 => cmdWord 0x4C (fld jd.val) (fld js1.val) 0 0 0
  | .jaddm jd js1 ps2 => cmdWord 0x4D (fld jd.val) (fld js1.val) (fld ps2.val) 0 0
  | .sm3init => cmdWord 0x50 0 0 0 0 0
  | .sm3cf rs1p => cmdWord 0x51 0 (fld rs1p.val) 0 0 0
  | .sm3rd rd => cmdWord 0x52 (fld rd.val) 0 0 0 0
  | .sm3wr rs1 => cmdWord 0x53 0 (fld rs1.val) 0 0 0
  | .sm4key rs1 => cmdWord 0x60 0 (fld rs1.val) 0 0 0
  | .sm4enc rd rs1 => cmdWord 0x61 (fld rd.val) (fld rs1.val) 0 0 0
  | .sm4dec rd rs1 => cmdWord 0x62 (fld rd.val) (fld rs1.val) 0 0 0
  | .sm4t rd rs1 => cmdWord 0x63 (fld rd.val) (fld rs1.val) 0 0 0
  | .sm4tk rd rs1 => cmdWord 0x64 (fld rd.val) (fld rs1.val) 0 0 0
  | .sm4sb rd rs1 => cmdWord 0x65 (fld rd.val) (fld rs1.val) 0 0 0
  | .sm4l rd rs1 => cmdWord 0x66 (fld rd.val) (fld rs1.val) 0 0 0
  | .sm4lk rd rs1 => cmdWord 0x67 (fld rd.val) (fld rs1.val) 0 0 0

/-- The mnemonic of a command (R105). -/
def Instr.mnemonic : Instr → String
  | .nop => "NOP"
  | .mov _ _ => "MOV"
  | .ldc _ _ => "LDC"
  | .ldi _ _ => "LDI"
  | .add _ _ _ => "ADD"
  | .sub _ _ _ => "SUB"
  | .mul _ _ _ => "MUL"
  | .sqr _ _ => "SQR"
  | .cmp _ _ => "CMP"
  | .bitlen _ _ => "BITLEN"
  | .getbit _ _ => "GETBIT"
  | .shl1 _ _ => "SHL1"
  | .shr1 _ _ => "SHR1"
  | .and _ _ _ => "AND"
  | .madd _ _ _ _ => "MADD"
  | .msub _ _ _ _ => "MSUB"
  | .mmul _ _ _ _ => "MMUL"
  | .msqr _ _ _ => "MSQR"
  | .minv _ _ _ => "MINV"
  | .mpow _ _ _ _ => "MPOW"
  | .mred _ _ _ => "MRED"
  | .fred _ _ => "FRED"
  | .fadd _ _ _ => "FADD"
  | .fsub _ _ _ => "FSUB"
  | .fmul _ _ _ => "FMUL"
  | .fsqr _ _ => "FSQR"
  | .fneg _ _ => "FNEG"
  | .finv _ _ => "FINV"
  | .fnorm _ _ => "FNORM"
  | .pld _ _ _ => "PLD"
  | .pst _ _ => "PST"
  | .pinf _ => "PINF"
  | .pldg _ => "PLDG"
  | .pchk _ => "PCHK"
  | .pneg _ _ => "PNEG"
  | .padd _ _ _ => "PADD"
  | .pdbl _ _ => "PDBL"
  | .pmul _ _ _ => "PMUL"
  | .peq _ _ => "PEQ"
  | .jfrom _ _ => "JFROM"
  | .jtoa _ _ => "JTOA"
  | .jdbl _ _ => "JDBL"
  | .jaddm _ _ _ => "JADDM"
  | .sm3init => "SM3INIT"
  | .sm3cf _ => "SM3CF"
  | .sm3rd _ => "SM3RD"
  | .sm3wr _ => "SM3WR"
  | .sm4key _ => "SM4KEY"
  | .sm4enc _ _ => "SM4ENC"
  | .sm4dec _ _ => "SM4DEC"
  | .sm4t _ _ => "SM4T"
  | .sm4tk _ _ => "SM4TK"
  | .sm4sb _ _ => "SM4SB"
  | .sm4l _ _ => "SM4L"
  | .sm4lk _ _ => "SM4LK"

/-! ## Assembler syntax and pseudo-instructions (R115, R116) -/

/-- An operand register, or a pair by its even register: `r0`..`r15` (R115). -/
def regText (i : RReg) : String := "r" ++ Nat.repr i.val

/-- An affine point register: `pa0`..`pa3` (R115). -/
def affineText (i : PReg) : String := "pa" ++ Nat.repr i.val

/-- A Jacobian point register: `pj0`..`pj3` (R115). -/
def jacobianText (i : JReg) : String := "pj" ++ Nat.repr i.val

/-- A ROM index as an immediate, in decimal (R115, R132). -/
def romText (k : RomIndex) : String := "#" ++ Nat.repr k.val

/-- An immediate, in decimal (R115). -/
def immText (n : Imm8) : String := "#" ++ Nat.repr n.toNat

/-- The operands of a command as written, destination first (R105, R115). -/
def Instr.operandTexts : Instr → List String
  | .nop => []
  | .mov rd rs1 => [regText rd, regText rs1]
  | .ldc rd k => [regText rd, romText k]
  | .ldi rd imm => [regText rd, immText imm]
  | .add rd rs1 rs2 => [regText rd, regText rs1, regText rs2]
  | .sub rd rs1 rs2 => [regText rd, regText rs1, regText rs2]
  | .mul rdp rs1 rs2 => [regText rdp, regText rs1, regText rs2]
  | .sqr rdp rs1 => [regText rdp, regText rs1]
  | .cmp rs1 rs2 => [regText rs1, regText rs2]
  | .bitlen rd rs1 => [regText rd, regText rs1]
  | .getbit rs1 i => [regText rs1, immText i]
  | .shl1 rd rs1 => [regText rd, regText rs1]
  | .shr1 rd rs1 => [regText rd, regText rs1]
  | .and rd rs1 rs2 => [regText rd, regText rs1, regText rs2]
  | .madd rd rs1 rs2 rs3 => [regText rd, regText rs1, regText rs2, regText rs3]
  | .msub rd rs1 rs2 rs3 => [regText rd, regText rs1, regText rs2, regText rs3]
  | .mmul rd rs1 rs2 rs3 => [regText rd, regText rs1, regText rs2, regText rs3]
  | .msqr rd rs1 rs3 => [regText rd, regText rs1, regText rs3]
  | .minv rd rs1 rs3 => [regText rd, regText rs1, regText rs3]
  | .mpow rd rs1 rs2 rs3 => [regText rd, regText rs1, regText rs2, regText rs3]
  | .mred rd rs1p rs3 => [regText rd, regText rs1p, regText rs3]
  | .fred rd rs1p => [regText rd, regText rs1p]
  | .fadd rd rs1 rs2 => [regText rd, regText rs1, regText rs2]
  | .fsub rd rs1 rs2 => [regText rd, regText rs1, regText rs2]
  | .fmul rd rs1 rs2 => [regText rd, regText rs1, regText rs2]
  | .fsqr rd rs1 => [regText rd, regText rs1]
  | .fneg rd rs1 => [regText rd, regText rs1]
  | .finv rd rs1 => [regText rd, regText rs1]
  | .fnorm rd rs1 => [regText rd, regText rs1]
  | .pld pd rs1 rs2 => [affineText pd, regText rs1, regText rs2]
  | .pst rdp ps1 => [regText rdp, affineText ps1]
  | .pinf pd => [affineText pd]
  | .pldg pd => [affineText pd]
  | .pchk ps1 => [affineText ps1]
  | .pneg pd ps1 => [affineText pd, affineText ps1]
  | .padd pd ps1 ps2 => [affineText pd, affineText ps1, affineText ps2]
  | .pdbl pd ps1 => [affineText pd, affineText ps1]
  | .pmul pd ps1 rs2 => [affineText pd, affineText ps1, regText rs2]
  | .peq ps1 ps2 => [affineText ps1, affineText ps2]
  | .jfrom jd ps1 => [jacobianText jd, affineText ps1]
  | .jtoa pd js1 => [affineText pd, jacobianText js1]
  | .jdbl jd js1 => [jacobianText jd, jacobianText js1]
  | .jaddm jd js1 ps2 => [jacobianText jd, jacobianText js1, affineText ps2]
  | .sm3init => []
  | .sm3cf rs1p => [regText rs1p]
  | .sm3rd rd => [regText rd]
  | .sm3wr rs1 => [regText rs1]
  | .sm4key rs1 => [regText rs1]
  | .sm4enc rd rs1 => [regText rd, regText rs1]
  | .sm4dec rd rs1 => [regText rd, regText rs1]
  | .sm4t rd rs1 => [regText rd, regText rs1]
  | .sm4tk rd rs1 => [regText rd, regText rs1]
  | .sm4sb rd rs1 => [regText rd, regText rs1]
  | .sm4l rd rs1 => [regText rd, regText rs1]
  | .sm4lk rd rs1 => [regText rd, regText rs1]

/-- A command as the assembler writes it: the mnemonic, then the operands separated by commas (R115). -/
def Instr.assembly (i : Instr) : String :=
  match i.operandTexts with
  | [] => i.mnemonic
  | ops => i.mnemonic ++ " " ++ String.intercalate ", " ops

/-- `CLR rd` is `LDI rd, #0` (R116). -/
def Instr.clr (rd : RReg) : Instr := .ldi rd 0

/-- `ONE rd` is `LDI rd, #1` (R116). -/
def Instr.one (rd : RReg) : Instr := .ldi rd 1

/-- `LDP rd` is `LDC rd, #0` (R116). -/
def Instr.ldp (rd : RReg) : Instr := .ldc rd 0

/-- `LDN rd` is `LDC rd, #3` (R116). -/
def Instr.ldn (rd : RReg) : Instr := .ldc rd 3

/-- `TST rs1, #i` is `GETBIT rs1, #i` (R116). -/
def Instr.tst (rs1 : RReg) (i : Imm8) : Instr := .getbit rs1 i

/-- What the decoder reads from an instruction of `nbits` bits `w`, numbered as the opcode table numbers
them: the word's byte lanes are given to `decode`. -/
def decodeTableWord (nbits w : Nat) : Option Instr :=
  match decode (bytesOfWord (BitVec.ofNat 32 (w % 2 ^ nbits))) with
  | .ok (i, _) => some i
  | .error _ => none

end Sys2Proof
end

