-- ==== Sys2Proof/Machine/Flags.lean ====
section
/-! DEFINITION. The flag computations (spec R34) and the exact integer results behind them (R13, R160). -/

namespace Sys2Proof.Machine

/-- The carry of a 256-bit addition: the exact sum reaches 2^256 (R150). -/
def addCarry (a b : W256) : Bool := decide (2 ^ 256 ≤ a.toNat + b.toNat)

/-- The borrow of a 256-bit subtraction, which is also the less-than result: the exact difference is
negative (R151, R154). -/
def subBorrow (a b : W256) : Bool := decide ((a.toNat : Int) - (b.toNat : Int) < 0)

/-- Z for a 256-bit result (R34). -/
def isZero (v : W256) : Bool := v == 0

/-- Z for an exact result that is a natural number (R152, R189, R200). -/
def natZero (n : Nat) : Bool := n == 0

/-- `bitlen(v)`, the least L with v < 2^L (R13). -/
def bitlen (v : Nat) : Nat := if v = 0 then 0 else v.log2 + 1

end Sys2Proof.Machine
end

