-- ==== Sys2Proof/Config.lean ====
section
/-! DEFINITION. What is fixed for the machine and is not state: the SM2 domain parameters (spec R8,
R19, R20), the SM3 initial value (R280), the open parameter MMIO_BASE (R10, R72) and the free values
the spec leaves to a draw (R86, I3; R450, I4). -/

namespace Sys2Proof.Config

/-- The SM2 prime p = 2^256 − 2^224 − 2^96 + 2^64 − 1 (R8, R19). -/
def SM2_p : Nat := 0xFFFFFFFEFFFFFFFFFFFFFFFFFFFFFFFFFFFFFFFF00000000FFFFFFFFFFFFFFFF

/-- The curve coefficient a = p − 3 (R19). -/
def SM2_a : Nat := 0xFFFFFFFEFFFFFFFFFFFFFFFFFFFFFFFFFFFFFFFF00000000FFFFFFFFFFFFFFFC

/-- The curve coefficient b (R20). -/
def SM2_b : Nat := 0x28E9FA9E9D9F5E344D5A9E4BCF6509A7F39789F515AB8F92DDBCBD414D940E93

/-- The order n of the generator (R20). -/
def SM2_n : Nat := 0xFFFFFFFEFFFFFFFFFFFFFFFFFFFFFFFF7203DF6B21C6052B53BBF40939D54123

/-- The x coordinate of the generator G (R20). -/
def SM2_Gx : Nat := 0x32C4AE2C1F1981195F9904466A39C9948FE30BBFF2660BE1715A4589334C74C7

/-- The y coordinate of the generator G (R20). -/
def SM2_Gy : Nat := 0xBC3736A2F4F6779C59BDCEE36B692153D0A9877CC62A474002DF32E52139F0A0

/-- The SM3 initial value, V0 in the most significant word (R39, R280). -/
def SM3_IV : W256 := 0x7380166F4914B2B9172442D7DA8A0600A96F30BC163138AAE38DEE4DB0FB0E4E#256

/-- MMIO_BASE, the bus address of offset 0x000 (R10, R72): an open parameter of the platform. No rule
reads its value; transactions reach the block as offsets (R70). -/
opaque MMIO_BASE : Nat

/-- The bus address of an offset of the register window (R72). -/
def busAddress (off : BitVec 12) : Nat := MMIO_BASE + off.toNat

/-- FREE VALUE: what a read of a data register returns while a command is in flight (R86, I3).
The argument is `State.draws`, so that two reads may differ. -/
opaque busyRead : Nat → Word

/-- FREE VALUE: the read data of a transaction issued while the reset input is asserted (I4). -/
opaque resetRead : Nat → Word

/-- FREE VALUE: whether the platform answers OKAY to a transaction issued while the reset input is
asserted (R450, I4: the response is the platform's concern). -/
opaque resetOkay : Nat → Bool

end Sys2Proof.Config
end

