-- ==== Sys2Proof/Machine/State.lean ====
section
/-! DEFINITION. The state of the SMX CORE as plain data (spec R30 to R54), the events that may happen to it
(R70, R71, R450), the answer of a bus transaction (R70, R76), why a step may stop, and the state after
reset (R54, R450). -/

namespace Sys2Proof.Machine

/-- An affine point register: two coordinates and the bit that says it denotes the point at infinity
(R35, R36). The four inf bits together are the PAINF register (R49). -/
structure AffReg where
  x : W256
  y : W256
  inf : Bool
  deriving DecidableEq, Repr

/-- A Jacobian point register (R37, R38). -/
structure JacReg where
  X : W256
  Y : W256
  Z : W256
  deriving DecidableEq, Repr

/-- Everything a command can read or write: the operand registers (R31), the point registers (R35, R37),
the SM3 chaining value (R39), the SM4 round keys and their valid bit (R50, R47) and the flags (R34). -/
structure Data where
  r : Vector W256 16
  pa : Vector AffReg 4
  pj : Vector JacReg 4
  v : W256
  rk : Vector Word 32
  keyv : Bool
  c : Bool
  z : Bool
  t : Bool
  deriving DecidableEq, Repr

/-- The command in flight: the latched word and the snapshot taken at acceptance (R52, R73). -/
structure InFlight where
  word : Word
  snap : Data
  deriving DecidableEq, Repr

/-- One event of the block's single sequence of events (R71), as the outside world supplies it. -/
inductive Event where
  /-- A read transaction of `size` bits at an offset of the window (R70, R71). -/
  | read (off : BitVec 12) (size : Nat)
  /-- A write transaction of `size` bits at an offset of the window (R70, R71). -/
  | write (off : BitVec 12) (size : Nat) (data : Word)
  /-- The completion of the command in flight falls here (R74, R75). -/
  | complete
  /-- The reset input changes to this level, `true` for asserted (R450). -/
  | resetInput (asserted : Bool)
  deriving DecidableEq, Repr

/-- The answer of one transaction: OKAY or ERROR, and the read data of a read (R70, R76). -/
structure BusResponse where
  okay : Bool
  data : Option Word
  deriving DecidableEq, Repr

/-- The state of the block (R30 to R54), with the events still to come, the last answer on the bus and
the count of free values drawn, which are the model's own. -/
structure State where
  /-- The registers that commands read and write. -/
  data : Data
  /-- CTRL.IE (R41). -/
  ie : Bool
  /-- STATUS.BUSY (R43). -/
  busy : Bool
  /-- STATUS.DONE (R44). -/
  done : Bool
  /-- STATUS.ERR (R45). -/
  err : Bool
  /-- STATUS.OVR (R46). -/
  ovr : Bool
  /-- STATUS.ERRCODE (R45, R401). -/
  errcode : BitVec 4
  /-- The CMD latch (R48). -/
  cmd : Word
  /-- The command in flight, if any (R52). -/
  inflight : Option InFlight
  /-- The level of the reset input (R450). -/
  inReset : Bool
  /-- The events still to come, the next one first (R71). The model's own field. -/
  events : List Event
  /-- The answer of the last transaction (R70). The model's own field. -/
  response : Option BusResponse
  /-- How many free values have been drawn (R86, I3, I4). The model's own field. -/
  draws : Nat
  deriving DecidableEq, Repr

/-- Reasons a step could stop the machine with a fault. There is none: every command completes, with
success or with an error code in STATUS (R400), and every transaction is answered (R70, R76). Nothing
raises a fault, so the type has no constructor (safe: no behaviour is cut off). -/
inductive Fault where
  deriving DecidableEq, Repr

/-- Reasons a step could be refused. -/
inductive Refusal where
  /-- Raised only by an arm of `exec` whose instruction has no meaning yet; safe, since it stops where
  the hardware goes on. No arm raises it in this model. -/
  | notModelled (mnemonic : String)
  deriving DecidableEq, Repr

/-- What a step and a meaning answer. -/
abbrev Result := Host.Outcome State Fault Refusal

/-- The registers after reset (R54): everything 0, all four affine registers at infinity, V the SM3
initial value. -/
def Data.reset : Data where
  r := Vector.replicate 16 0
  pa := Vector.replicate 4 ⟨0, 0, true⟩
  pj := Vector.replicate 4 ⟨0, 0, 0⟩
  v := Config.SM3_IV
  rk := Vector.replicate 32 0
  keyv := false
  c := false
  z := false
  t := false

/-- The machine right after reset (R54, R450), with no event to come. -/
def State.reset : State where
  data := Data.reset
  ie := false
  busy := false
  done := false
  err := false
  ovr := false
  errcode := 0
  cmd := 0
  inflight := none
  inReset := false
  events := []
  response := none
  draws := 0

end Sys2Proof.Machine
end

