-- ==== Sys2Proof/Machine/Ops.lean ====
section
/-! DEFINITION. The named operations over the state that every meaning goes through: reading the operands of
the command in flight, writing destinations and flags, completing with success or with an error
(spec R14, R73, R74, R403), the host's return from a completion (R42, R414) and reset (R450, R452). -/

namespace Sys2Proof.Machine

/-! ## Reading operands (R14, R52, R74) -/

/-- The registers a command reads: the snapshot taken at its acceptance (R73, R74). With no command in
flight it is the live registers. -/
def State.src (s : State) : Data :=
  match s.inflight with
  | some f => f.snap
  | none => s.data

/-- `R[i]` as an operand (R12). -/
def State.readR (s : State) (i : RReg) : W256 := s.src.r[i]

/-- `R[i]` as an exact natural number (R13). -/
def State.natR (s : State) (i : RReg) : Nat := (s.readR i).toNat

/-! ## Writing destinations (R12, R14) -/

/-- `R[i] <- v` (R12). -/
def State.writeR (s : State) (i : RReg) (v : W256) : State :=
  { s with data := { s.data with r := s.data.r.set i v } }

/-- Write an affine point register (R12, R35). -/
def State.setPA (s : State) (i : PReg) (p : AffReg) : State :=
  { s with data := { s.data with pa := s.data.pa.set i p } }

/-- Write a Jacobian point register (R12, R37). -/
def State.setPJ (s : State) (i : JReg) (j : JacReg) : State :=
  { s with data := { s.data with pj := s.data.pj.set i j } }

/-- `V <- v` (R12, R39). -/
def State.setV (s : State) (v : W256) : State := { s with data := { s.data with v := v } }

/-- `RK[i] <- rk_i` for all i, and `KEYV <- 1` (R47, R50, R320). -/
def State.setKeys (s : State) (rk : Vector Word 32) : State :=
  { s with data := { s.data with rk := rk, keyv := true } }

/-- `C <- b` (R34). -/
def State.setC (s : State) (b : Bool) : State := { s with data := { s.data with c := b } }

/-- `Z <- b` (R34). -/
def State.setZ (s : State) (b : Bool) : State := { s with data := { s.data with z := b } }

/-- `T <- b` (R34). -/
def State.setT (s : State) (b : Bool) : State := { s with data := { s.data with t := b } }

/-! ## Completion (R43, R44, R74, R403) -/

/-- The end of every completion: BUSY <- 0, DONE <- 1, and no command is in flight any more (R43, R44,
R52, R74). -/
def State.finish (s : State) : State := { s with busy := false, done := true, inflight := none }

/-- A command that ends with success: its destinations and flags are in `s` (R74). -/
def succeed (s : State) : Result := .next s.finish

/-- The command errors (R401), in their order of priority (R408). -/
inductive CmdError where
  /-- The word matches no row of the opcode map. -/
  | illegal
  /-- SM4ENC or SM4DEC while KEYV = 0. -/
  | noKey
  /-- The modulus is 0. -/
  | divZero
  /-- The value to invert is 0 modulo the modulus. -/
  | invZero
  deriving DecidableEq, Repr

/-- The ERRCODE value of an error (R401). -/
def CmdError.code (e : CmdError) : BitVec 4 :=
  match e with
  | .illegal => 1
  | .noKey => 2
  | .divZero => 3
  | .invZero => 4

/-- The exception operation of this hardware, an error completion: ERR <- 1, ERRCODE <- code, BUSY <- 0,
DONE <- 1 and nothing else (R403). -/
def State.raised (s : State) (e : CmdError) : State :=
  { s with err := true, errcode := e.code }.finish

/-- `raise E(code)` (R14, R403). -/
def raise (e : CmdError) (s : State) : Result := .next (s.raised e)

/-- The return from a completion or an error, a host write to STATUS: each W1C bit whose written bit is 1
is cleared, clearing ERR also sets ERRCODE to 0, and nothing else changes (R42, R44 to R46, R414). -/
def State.clearStatus (s : State) (w : Word) : State :=
  { s with
    done := s.done && !w.getLsbD 1
    err := s.err && !w.getLsbD 2
    errcode := if w.getLsbD 2 then 0 else s.errcode
    ovr := s.ovr && !w.getLsbD 3 }

/-! ## Reset (R450, R452, R453) -/

/-- Every piece of the block's state at its reset value, no command in flight (R54, R450, R453). The
events to come, the bus answer, the count of draws and the reset input are outside the block and
stay. -/
def State.resetBlock (s : State) : State :=
  { State.reset with
    events := s.events, response := s.response, draws := s.draws, inReset := s.inReset }

/-! ## The 32-bit words of a 256-bit value (R32, R78, R83) -/

/-- Word k of a 256-bit value: bits [32k+31:32k] (R78). -/
def getWord (v : W256) (k : Fin 8) : Word := v.extractLsb' (32 * k.val) 32

/-- The 256-bit value with word k replaced, the other bits unchanged (R83). -/
def putWord (v : W256) (k : Fin 8) (w : Word) : W256 :=
  (v &&& ~~~((0xFFFFFFFF#256) <<< (32 * k.val))) ||| ((w.setWidth 256) <<< (32 * k.val))

/-- Limb j of a 256-bit value: bits [64j+63:64j] (R11, R32). -/
def limb (v : W256) (j : Fin 4) : BitVec 64 := v.extractLsb' (64 * j.val) 64

end Sys2Proof.Machine
end

