-- ==== Sys2Proof/Machine/Operands.lean ====
section
/-! DEFINITION. The operand forms: register pairs (spec R33, R101), the constant ROM (R51), immediates
(R102), the low 128 and 32 bits of a register (R301, R323), and the result forms shared by the modular
and field commands (R180, R189, R200). -/

namespace Sys2Proof.Machine

/-! ## Register pairs (R33) -/

/-- The other register of the pair that register k names. -/
def pairHigh (k : RPair) : RReg := k + 1

/-- The 512-bit value R[k+1] ‖ R[k] as a natural number (R33). -/
def State.readPair (s : State) (k : RPair) : Nat := s.natR (pairHigh k) * 2 ^ 256 + s.natR k

/-- Both registers of a pair (R33, R101). -/
def State.writePair (s : State) (k : RPair) (lo hi : W256) : State :=
  (s.writeR k lo).writeR (pairHigh k) hi

/-- A 512-bit value into a pair: R[k] <- q[255:0], R[k+1] <- q[511:256] (R33, R152). -/
def State.writeProduct (s : State) (k : RPair) (q : Nat) : State :=
  s.writePair k (BitVec.ofNat 256 q) (BitVec.ofNat 256 (q / 2 ^ 256))

/-- A pair operand must name an even register; an odd one is an illegal command (R33, R103, R110). The
decoder never yields one, so this guard speaks of syntax terms that no word spells. -/
def withPair (k : RPair) (s : State) (body : Result) : Result :=
  if pairEven k then body else raise .illegal s

/-! ## Constants and immediates (R51, R102) -/

/-- The constant ROM (R51). -/
def rom (k : RomIndex) : W256 :=
  match k with
  | 0 => BitVec.ofNat 256 Config.SM2_p
  | 1 => BitVec.ofNat 256 Config.SM2_a
  | 2 => BitVec.ofNat 256 Config.SM2_b
  | 3 => BitVec.ofNat 256 Config.SM2_n
  | 4 => BitVec.ofNat 256 Config.SM2_Gx
  | 5 => BitVec.ofNat 256 Config.SM2_Gy
  | 6 => BitVec.ofNat 256 (Config.SM2_p - 2)
  | 7 => BitVec.ofNat 256 (Config.SM2_n - 2)

/-- An 8-bit immediate zero-extended to 256 bits (R102, R133). -/
def zext8 (imm : Imm8) : W256 := imm.setWidth 256

/-! ## Parts of a register (R301, R323) -/

/-- Bits [127:0] of a register (R301). -/
def low128 (v : W256) : BitVec 128 := v.extractLsb' 0 128

/-- Bits [31:0] of a register (R323). -/
def low32 (v : W256) : Word := v.extractLsb' 0 32

/-! ## Result forms -/

/-- Write a residue r and Z <- (r = 0), then complete (R189, R200). -/
def State.writeResidue (s : State) (rd : RReg) (r : Nat) : Result :=
  succeed ((s.writeR rd (BitVec.ofNat 256 r)).setZ (natZero r))

/-- A command with modulus m = R[rs3]: DIV_ZERO when m = 0, before anything else (R180); otherwise the
residue `f m` and Z (R188, R189). -/
def modular (rd rs3 : RReg) (f : Nat → Nat) (s : State) : Result :=
  if s.natR rs3 = 0 then raise .divZero s else s.writeResidue rd (f (s.natR rs3))

/-- `(a − b) mod m`, the residue of a possibly negative difference (R13, R182, R203). -/
def subMod (a b m : Nat) : Nat := (((a : Int) - (b : Int)) % (m : Int)).toNat

end Sys2Proof.Machine
end

