-- ==== Sys2Proof/Machine/Bus.lean ====
section
/-! DEFINITION. The register window and its transactions (spec R40 to R49, R70 to R92), command submission
(R73) and the interrupt output (R412). -/

namespace Sys2Proof.Machine

/-! ## The address map (R80) -/

/-- What stands at a word offset of the window (R80). -/
inductive WindowReg where
  | id
  | ctrl
  | status
  | cmd
  | painf
  | r (i : RReg) (k : Fin 8)
  | paX (i : PReg) (k : Fin 8)
  | paY (i : PReg) (k : Fin 8)
  | pjX (i : JReg) (k : Fin 8)
  | pjY (i : JReg) (k : Fin 8)
  | pjZ (i : JReg) (k : Fin 8)
  | v (k : Fin 8)
  | rk (i : Fin 32)
  | reserved
  deriving DecidableEq, Repr

/-- The word index inside a 32-byte register (R80). -/
def wordIndex (rel : Nat) : Fin 8 := Fin.ofNat 8 (rel % 0x20 / 4)

/-- The affine registers' range, `rel` bytes from 0x300 (R80). -/
def windowPA (rel : Nat) : WindowReg :=
  let i : PReg := Fin.ofNat 4 (rel / 0x40)
  if rel % 0x40 < 0x20 then .paX i (wordIndex rel) else .paY i (wordIndex rel)

/-- The Jacobian registers' range, `rel` bytes from 0x400 (R80). -/
def windowPJ (rel : Nat) : WindowReg :=
  let i : JReg := Fin.ofNat 4 (rel / 0x60)
  let sub := rel % 0x60
  if sub < 0x20 then .pjX i (wordIndex sub)
  else if sub < 0x40 then .pjY i (wordIndex sub)
  else .pjZ i (wordIndex sub)

/-- The register window (R80). -/
def windowAt (off : Nat) : WindowReg :=
  if off = 0x000 then .id
  else if off = 0x004 then .ctrl
  else if off = 0x008 then .status
  else if off = 0x00C then .cmd
  else if off = 0x010 then .painf
  else if off < 0x100 then .reserved
  else if off < 0x300 then .r (Fin.ofNat 16 ((off - 0x100) / 0x20)) (wordIndex (off - 0x100))
  else if off < 0x400 then windowPA (off - 0x300)
  else if off < 0x580 then windowPJ (off - 0x400)
  else if off < 0x600 then .reserved
  else if off < 0x620 then .v (wordIndex (off - 0x600))
  else if off < 0x700 then .reserved
  else if off < 0x780 then .rk (Fin.ofNat 32 ((off - 0x700) / 4))
  else .reserved

/-- A data register, subject to R85 and R86 (R80). -/
def WindowReg.isData (g : WindowReg) : Bool :=
  match g with
  | .id => false
  | .ctrl => false
  | .status => false
  | .cmd => false
  | .painf => true
  | .r _ _ => true
  | .paX _ _ => true
  | .paY _ _ => true
  | .pjX _ _ => true
  | .pjY _ _ => true
  | .pjZ _ _ => true
  | .v _ => true
  | .rk _ => true
  | .reserved => false

/-- A data register that the host can write: all but RK (R50, R80, R82). -/
def WindowReg.isWritableData (g : WindowReg) : Bool :=
  match g with
  | .rk _ => false
  | _ => g.isData

/-! ## Reading (R40 to R50, R80, R81) -/

/-- The ID register (R40). -/
def idWord : Word := 0x534D5807#32

/-- CTRL as read: IE in bit 0, SRST and the reserved bits 0 (R41). -/
def State.ctrlWord (s : State) : Word := (0 : BitVec 31) ++ BitVec.ofBool s.ie

/-- STATUS as read (R42). -/
def State.statusWord (s : State) : Word :=
  (0 : BitVec 13) ++ BitVec.ofBool s.data.t ++ BitVec.ofBool s.data.z ++ BitVec.ofBool s.data.c
    ++ (0 : BitVec 4) ++ s.errcode ++ (0 : BitVec 3) ++ BitVec.ofBool s.data.keyv
    ++ BitVec.ofBool s.ovr ++ BitVec.ofBool s.err ++ BitVec.ofBool s.done ++ BitVec.ofBool s.busy

/-- PAINF as read: bit i is PA[i].inf, bits [31:4] are 0 (R49). -/
def Data.painfWord (d : Data) : Word :=
  (0 : BitVec 28) ++ BitVec.ofBool d.pa[3].inf ++ BitVec.ofBool d.pa[2].inf
    ++ BitVec.ofBool d.pa[1].inf ++ BitVec.ofBool d.pa[0].inf

/-- The contents at a word offset, as a read with BUSY = 0 returns them (R80, R81). -/
def State.windowWord (s : State) (g : WindowReg) : Word :=
  match g with
  | .id => idWord
  | .ctrl => s.ctrlWord
  | .status => s.statusWord
  | .cmd => s.cmd
  | .painf => s.data.painfWord
  | .r i k => getWord s.data.r[i] k
  | .paX i k => getWord s.data.pa[i].x k
  | .paY i k => getWord s.data.pa[i].y k
  | .pjX i k => getWord s.data.pj[i].X k
  | .pjY i k => getWord s.data.pj[i].Y k
  | .pjZ i k => getWord s.data.pj[i].Z k
  | .v k => getWord s.data.v k
  | .rk i => s.data.rk[i]
  | .reserved => 0

/-- The only legal access: 32 bits at an offset that is a multiple of 4 (R76). -/
def legalAccess (off : BitVec 12) (size : Nat) : Bool := size == 32 && off.toNat % 4 == 0

/-- Record the answer of a transaction (R70). -/
def State.answer (s : State) (okay : Bool) (data : Option Word) : State :=
  { s with response := some ⟨okay, data⟩ }

/-- One more free value has been drawn. -/
def State.drawn (s : State) : State := { s with draws := s.draws + 1 }

/-- A read transaction: ERROR with data 0 for an illegal access (R76); a free value for a data register
while BUSY = 1 (R86); otherwise the contents. No side effect on the block (R87). -/
def State.busRead (s : State) (off : BitVec 12) (size : Nat) : State :=
  if legalAccess off size then
    if s.busy && (windowAt off.toNat).isData then
      (s.answer true (some (Config.busyRead s.draws))).drawn
    else s.answer true (some (s.windowWord (windowAt off.toNat)))
  else s.answer false (some 0)

/-! ## Command submission (R73) -/

/-- Acceptance of a command word: latch it, set BUSY, clear DONE, take the snapshot (R73). -/
def State.accept (s : State) (w : Word) : State :=
  { s with cmd := w, busy := true, done := false, inflight := some ⟨w, s.data⟩ }

/-- A CMD write: accepted when BUSY = 0 and ERR = 0, dropped with OVR otherwise (R73, R410). -/
def State.submit (s : State) (w : Word) : State :=
  if !s.busy && !s.err then s.accept w else { s with ovr := true }

/-! ## Writing (R41, R42, R49, R80 to R85, R452) -/

/-- PAINF written: bit i is PA[i].inf, bits [31:4] are ignored (R49). -/
def Data.putPainf (d : Data) (w : Word) : Data :=
  { d with pa := Vector.ofFn fun i => { d.pa[i] with inf := w.getLsbD i.val } }

/-- One word of a writable data register replaced; any other register is left as it is (R80, R82, R83). -/
def Data.putWindow (d : Data) (g : WindowReg) (w : Word) : Data :=
  match g with
  | .painf => d.putPainf w
  | .r i k => { d with r := d.r.set i (putWord d.r[i] k w) }
  | .paX i k => { d with pa := d.pa.set i { d.pa[i] with x := putWord d.pa[i].x k w } }
  | .paY i k => { d with pa := d.pa.set i { d.pa[i] with y := putWord d.pa[i].y k w } }
  | .pjX i k => { d with pj := d.pj.set i { d.pj[i] with X := putWord d.pj[i].X k w } }
  | .pjY i k => { d with pj := d.pj.set i { d.pj[i] with Y := putWord d.pj[i].Y k w } }
  | .pjZ i k => { d with pj := d.pj.set i { d.pj[i] with Z := putWord d.pj[i].Z k w } }
  | .v k => { d with v := putWord d.v k w }
  | .rk _ => d
  | .id => d
  | .ctrl => d
  | .status => d
  | .cmd => d
  | .reserved => d

/-- CTRL written: a soft reset when bit 1 is 1, whatever else is written (R452); otherwise IE (R41). -/
def State.writeCtrl (s : State) (w : Word) : State :=
  if w.getLsbD 1 then s.resetBlock else { s with ie := w.getLsbD 0 }

/-- A write to a writable data register: dropped with OVR while BUSY = 1 (R85). -/
def State.writeData (s : State) (g : WindowReg) (w : Word) : State :=
  if s.busy then { s with ovr := true } else { s with data := s.data.putWindow g w }

/-- The effect of a legal write on the block (R73, R80 to R85). -/
def State.writeWindow (s : State) (g : WindowReg) (w : Word) : State :=
  match g with
  | .ctrl => s.writeCtrl w
  | .status => s.clearStatus w
  | .cmd => s.submit w
  | _ => if g.isWritableData then s.writeData g w else s

/-- A write transaction: ERROR and no effect for an illegal access (R76), OKAY otherwise (R73, R81,
R82, R85, R452). -/
def State.busWrite (s : State) (off : BitVec 12) (size : Nat) (w : Word) : State :=
  if legalAccess off size then (s.writeWindow (windowAt off.toNat) w).answer true none
  else s.answer false none

/-! ## Interrupt output and reset input (R412, R450) -/

/-- The level of IRQ = CTRL.IE ∧ STATUS.DONE (R412). -/
def State.irq (s : State) : Bool := s.ie && s.done

/-- The reset input changes level: asserted, the block is reset and ignores transactions until it is
deasserted; after that every piece of state holds its reset value (R450, R453). -/
def State.setResetInput (s : State) (asserted : Bool) : State :=
  if asserted || s.inReset then { s.resetBlock with inReset := asserted } else s

/-- A transaction while the reset input is asserted: no effect on the block; response and read data are
the platform's (R450, I4). -/
def State.answerInReset (s : State) (isRead : Bool) : State :=
  (s.answer (Config.resetOkay s.draws)
    (if isRead then some (Config.resetRead s.draws) else none)).drawn

end Sys2Proof.Machine
end

