-- ==== Sys2Proof/Machine/BigInt.lean ====
section
/-! DEFINITION. 256-bit unsigned integer arithmetic (spec R150 to R160). -/

namespace Sys2Proof.Machine

/-- ADD rd, rs1, rs2: the sum mod 2^256, C the carry, Z (R150). -/
def execAdd (rd rs1 rs2 : RReg) (s : State) : Result :=
  let a := s.readR rs1
  let b := s.readR rs2
  succeed (((s.writeR rd (a + b)).setC (addCarry a b)).setZ (isZero (a + b)))

/-- SUB rd, rs1, rs2: the difference mod 2^256, C the borrow, Z (R151). -/
def execSub (rd rs1 rs2 : RReg) (s : State) : Result :=
  let a := s.readR rs1
  let b := s.readR rs2
  succeed (((s.writeR rd (a - b)).setC (subBorrow a b)).setZ (isZero (a - b)))

/-- A 512-bit product into a pair with Z, shared by MUL and SQR (R152, R153). -/
def productTo (rdp : RPair) (q : Nat) (s : State) : Result :=
  withPair rdp s (succeed ((s.writeProduct rdp q).setZ (natZero q)))

/-- MUL rdp, rs1, rs2: the exact product (R152). -/
def execMul (rdp : RPair) (rs1 rs2 : RReg) (s : State) : Result :=
  productTo rdp (s.natR rs1 * s.natR rs2) s

/-- SQR rdp, rs1: the exact square (R153). -/
def execSqr (rdp : RPair) (rs1 : RReg) (s : State) : Result :=
  productTo rdp (s.natR rs1 * s.natR rs1) s

/-- CMP rs1, rs2: C less-than, Z equal, no register written (R154). -/
def execCmp (rs1 rs2 : RReg) (s : State) : Result :=
  let a := s.readR rs1
  let b := s.readR rs2
  succeed ((s.setC (subBorrow a b)).setZ (a == b))

/-- BITLEN rd, rs1 (R155). -/
def execBitlen (rd rs1 : RReg) (s : State) : Result :=
  let v := s.natR rs1
  succeed ((s.writeR rd (BitVec.ofNat 256 (bitlen v))).setZ (natZero v))

/-- GETBIT rs1, #i: T the bit, no register written (R156). -/
def execGetbit (rs1 : RReg) (i : Imm8) (s : State) : Result :=
  succeed (s.setT ((s.readR rs1).getLsbD i.toNat))

/-- SHL1 rd, rs1: C the bit shifted out (R157). -/
def execShl1 (rd rs1 : RReg) (s : State) : Result :=
  let v := s.readR rs1
  succeed (((s.writeR rd (v <<< 1)).setC (v.getLsbD 255)).setZ (isZero (v <<< 1)))

/-- SHR1 rd, rs1: logical, C the bit shifted out (R158). -/
def execShr1 (rd rs1 : RReg) (s : State) : Result :=
  let v := s.readR rs1
  succeed (((s.writeR rd (v >>> 1)).setC (v.getLsbD 0)).setZ (isZero (v >>> 1)))

/-- AND rd, rs1, rs2 (R159). -/
def execAnd (rd rs1 rs2 : RReg) (s : State) : Result :=
  let v := s.readR rs1 &&& s.readR rs2
  succeed ((s.writeR rd v).setZ (isZero v))

end Sys2Proof.Machine
end

