-- ==== Sys2Proof/Machine/Modular.lean ====
section
/-! DEFINITION. Modular arithmetic with the modulus in a register (spec R180 to R189). -/

namespace Sys2Proof.Machine

/-- The square-and-multiply loop for the exponent bits i−1 down to 0 (R186). -/
def mpowLoop (a e m : Nat) : Nat → Nat → Nat
  | 0, r => r
  | i + 1, r =>
    let sq := (r * r) % m
    mpowLoop a e m i (if e.testBit i then (sq * a) % m else sq)

/-- MPOW_core(a, e, m): left-to-right over the bit length of the modulus (R186). -/
def mpowCore (a e m : Nat) : Nat := mpowLoop a e m (bitlen m) (1 % m)

/-- MADD rd, rs1, rs2, rs3 (R181). -/
def execMadd (rd rs1 rs2 rs3 : RReg) (s : State) : Result :=
  modular rd rs3 (fun m => (s.natR rs1 + s.natR rs2) % m) s

/-- MSUB rd, rs1, rs2, rs3 (R182). -/
def execMsub (rd rs1 rs2 rs3 : RReg) (s : State) : Result :=
  modular rd rs3 (fun m => subMod (s.natR rs1) (s.natR rs2) m) s

/-- MMUL rd, rs1, rs2, rs3 (R183). -/
def execMmul (rd rs1 rs2 rs3 : RReg) (s : State) : Result :=
  modular rd rs3 (fun m => (s.natR rs1 * s.natR rs2) % m) s

/-- MSQR rd, rs1, rs3 (R184). -/
def execMsqr (rd rs1 rs3 : RReg) (s : State) : Result :=
  modular rd rs3 (fun m => (s.natR rs1 * s.natR rs1) % m) s

/-- MINV rd, rs1, rs3: DIV_ZERO, then INV_ZERO when a is 0 modulo m, then a^(m−2) mod m by MPOW_core
(R185, R408). For m = 1 the value to invert is 0, so m − 2 is read only for m ≥ 2. -/
def execMinv (rd rs1 rs3 : RReg) (s : State) : Result :=
  let m := s.natR rs3
  let a := s.natR rs1
  if m ≠ 0 ∧ a % m = 0 then raise .invZero s
  else modular rd rs3 (fun m => mpowCore a (m - 2) m) s

/-- MPOW rd, rs1, rs2, rs3 (R186). -/
def execMpow (rd rs1 rs2 rs3 : RReg) (s : State) : Result :=
  modular rd rs3 (fun m => mpowCore (s.natR rs1) (s.natR rs2) m) s

/-- MRED rd, rs1p, rs3: the 512-bit pair reduced by the modulus (R187). -/
def execMred (rd : RReg) (rs1p : RPair) (rs3 : RReg) (s : State) : Result :=
  withPair rs1p s (modular rd rs3 (fun m => s.readPair rs1p % m) s)

end Sys2Proof.Machine
end

