-- ==== Sys2Proof/Machine/Field.lean ====
section
/-! DEFINITION. Arithmetic mod the SM2 prime p (spec R15, R200 to R208) and the structure of the fast
reducer (R210 to R214). -/

namespace Sys2Proof.Machine

/-! ## Exact residues mod p (R15, R200) -/

/-- `Fp(v)` = v mod p (R15). -/
def fp (v : Nat) : Nat := v % Config.SM2_p

/-- Field addition (R202). -/
def fAdd (a b : Nat) : Nat := fp (a + b)

/-- Field subtraction (R203). -/
def fSub (a b : Nat) : Nat := subMod a b Config.SM2_p

/-- Field multiplication: the exact product, reduced (R204). -/
def fMul (a b : Nat) : Nat := fp (a * b)

/-- a^(p−2) mod p, by the exponentiation of R186 (R15, R207). -/
def fInv (a : Nat) : Nat := mpowCore a (Config.SM2_p - 2) Config.SM2_p

/-! ## Commands -/

/-- FRED rd, rs1p: the 512-bit pair mod p (R201). -/
def execFred (rd : RReg) (rs1p : RPair) (s : State) : Result :=
  withPair rs1p s (s.writeResidue rd (fp (s.readPair rs1p)))

/-- FADD rd, rs1, rs2 (R202). -/
def execFadd (rd rs1 rs2 : RReg) (s : State) : Result :=
  s.writeResidue rd (fAdd (s.natR rs1) (s.natR rs2))

/-- FSUB rd, rs1, rs2 (R203). -/
def execFsub (rd rs1 rs2 : RReg) (s : State) : Result :=
  s.writeResidue rd (fSub (s.natR rs1) (s.natR rs2))

/-- FMUL rd, rs1, rs2 (R204). -/
def execFmul (rd rs1 rs2 : RReg) (s : State) : Result :=
  s.writeResidue rd (fMul (s.natR rs1) (s.natR rs2))

/-- FSQR rd, rs1 (R205). -/
def execFsqr (rd rs1 : RReg) (s : State) : Result :=
  s.writeResidue rd (fMul (s.natR rs1) (s.natR rs1))

/-- FNEG rd, rs1 (R206). -/
def execFneg (rd rs1 : RReg) (s : State) : Result := s.writeResidue rd (fSub 0 (s.natR rs1))

/-- FINV rd, rs1: INV_ZERO when the operand is 0 mod p; otherwise a^(p−2) mod p and Z <- 0 (R207). -/
def execFinv (rd rs1 : RReg) (s : State) : Result :=
  let a := fp (s.natR rs1)
  if a = 0 then raise .invZero s
  else succeed ((s.writeR rd (BitVec.ofNat 256 (fInv a))).setZ false)

/-- FNORM rd, rs1 (R208). -/
def execFnorm (rd rs1 : RReg) (s : State) : Result := s.writeResidue rd (fp (s.natR rs1))

/-! ## The fast reducer (R210 to R214)

Its structure is informative and its result normative: the output is v mod p (R201). -/

/-- Row c8 of the coefficient table, the identity of R210 (R211). -/
def reducerRow8 : List Int := [1, 0, -1, 1, 0, 0, 0, 1]

/-- The coefficient table M: row i holds the coefficients of the high word c_(8+i) (R211). -/
def reducerTable : List (List Int) :=
  [reducerRow8,
   [1, 1, -1, 0, 1, 0, 0, 1],
   [1, 1, 0, 0, 0, 1, 0, 1],
   [1, 1, 0, 1, 0, 0, 1, 1],
   [1, 1, 0, 1, 1, 0, 0, 2],
   [2, 1, -1, 2, 1, 1, 0, 2],
   [2, 2, -1, 1, 2, 1, 1, 2],
   [2, 2, 0, 1, 1, 2, 1, 3]]

/-- The n lowest 32-bit words of v, least significant first (R211). -/
def words32 : Nat → Nat → List Int
  | 0, _ => []
  | n + 1, v => ((v % 2 ^ 32 : Nat) : Int) :: words32 n (v / 2 ^ 32)

/-- Σ w_j·2^(32j) (R212). -/
def wordsValue : List Int → Int
  | [] => 0
  | w :: ws => w + 2 ^ 32 * wordsValue ws

/-- Add `c` times a coefficient row to the column sums (R212, R213). -/
def addRow (sums row : List Int) (c : Int) : List Int := List.zipWith (fun s m => s + m * c) sums row

/-- The signed column sums s_j = c_j + Σ_i M[i][j]·c_(8+i) (R212). -/
def columnSums (v : Nat) : List Int :=
  (List.zip reducerTable (words32 8 (v / 2 ^ 256))).foldl (fun sums rc => addRow sums rc.1 rc.2)
    (words32 8 v)

/-- Signed carry propagation: the words mod 2^32 and the final carry (R212). -/
def propagate : List Int → Int → List Int × Int
  | [], carry => ([], carry)
  | s :: ss, carry =>
    let t := s + carry
    let rest := propagate ss (t / 2 ^ 32)
    (t % 2 ^ 32 :: rest.1, rest.2)

/-- Overflow folding while the carry is not 0, at most `n` rounds (R213). -/
def foldOverflow : Nat → List Int × Int → List Int × Int
  | 0, st => st
  | n + 1, (ws, carry) =>
    if carry = 0 then (ws, carry) else foldOverflow n (propagate (addRow ws reducerRow8 carry) 0)

/-- The fast reducer: fold, propagate, two overflow rounds, final subtraction of p (R212 to R214). -/
def fastReduce (v : Nat) : Nat :=
  let st := foldOverflow 2 (propagate (columnSums v) 0)
  let r := (wordsValue st.1).toNat
  if Config.SM2_p ≤ r then r - Config.SM2_p else r

end Sys2Proof.Machine
end

