-- ==== Sys2Proof/Machine/Move.lean ====
section
/-! DEFINITION. Moves, constants and NOP (spec R130 to R133). -/

namespace Sys2Proof.Machine

/-- NOP: no operation; it still completes (R130). -/
def execNop (s : State) : Result := succeed s

/-- MOV rd, rs1 (R131). -/
def execMov (rd rs1 : RReg) (s : State) : Result := succeed (s.writeR rd (s.readR rs1))

/-- LDC rd, #k (R132). -/
def execLdc (rd : RReg) (k : RomIndex) (s : State) : Result := succeed (s.writeR rd (rom k))

/-- LDI rd, #imm8 (R133). -/
def execLdi (rd : RReg) (imm : Imm8) (s : State) : Result := succeed (s.writeR rd (zext8 imm))

end Sys2Proof.Machine
end

