-- ==== Sys2Proof/Machine/Point.lean ====
section
/-! DEFINITION. Elliptic-curve points, affine and Jacobian (spec R230 to R252). Coordinates are residues
mod p as natural numbers; the registers hold them as 256-bit values. -/

namespace Sys2Proof.Machine

/-- What an affine register denotes: the point at infinity, or a pair of residues mod p (R36). -/
inductive Point where
  | infinity
  | affine (x y : Nat)
  deriving DecidableEq, Repr

/-- A Jacobian triple of residues mod p (R38). -/
structure Jac where
  X : Nat
  Y : Nat
  Z : Nat
  deriving DecidableEq, Repr

/-- The canonical Jacobian infinity (R38, R234). -/
def Jac.infinity : Jac := ⟨0, 0, 0⟩

/-! ## Register access (R231) -/

/-- What an affine register's contents denote (R36, R231). -/
def AffReg.point (p : AffReg) : Point :=
  if p.inf then .infinity else .affine (fp p.x.toNat) (fp p.y.toNat)

/-- A Jacobian register's coordinates mod p (R38, R231). -/
def JacReg.jac (j : JacReg) : Jac := ⟨fp j.X.toNat, fp j.Y.toNat, fp j.Z.toNat⟩

/-- readA(i) (R231). -/
def State.readA (s : State) (i : PReg) : Point := s.src.pa[i].point

/-- readJ(i) (R231). -/
def State.readJ (s : State) (i : JReg) : Jac := s.src.pj[i].jac

/-- The stored form of a point: x = y = 0 for infinity (R36, R231). -/
def Point.toReg (p : Point) : AffReg :=
  match p with
  | .infinity => ⟨0, 0, true⟩
  | .affine x y => ⟨BitVec.ofNat 256 x, BitVec.ofNat 256 y, false⟩

/-- The stored form of a Jacobian triple: (0, 0, 0) when Z = 0 (R38, R231). -/
def Jac.toReg (j : Jac) : JacReg :=
  if j.Z = 0 then ⟨0, 0, 0⟩
  else ⟨BitVec.ofNat 256 j.X, BitVec.ofNat 256 j.Y, BitVec.ofNat 256 j.Z⟩

/-- writeA(i, P) (R231). -/
def State.writeA (s : State) (i : PReg) (p : Point) : State := s.setPA i p.toReg

/-- writeJ(i, J) (R231). -/
def State.writeJ (s : State) (i : JReg) (j : Jac) : State := s.setPJ i j.toReg

/-- Whether a point is the point at infinity. -/
def Point.isInfinity (p : Point) : Bool :=
  match p with
  | .infinity => true
  | .affine _ _ => false

/-- writeA(pd, P); T <- (P = O); complete (R241 to R244, R247). -/
def State.pointResult (s : State) (pd : PReg) (p : Point) : Result :=
  succeed ((s.writeA pd p).setT p.isInfinity)

/-- writeJ(jd, J); T <- (J.Z = 0); complete (R248, R249). -/
def State.jacResult (s : State) (jd : JReg) (j : Jac) : Result :=
  succeed ((s.writeJ jd j).setT (natZero j.Z))

/-! ## Curve arithmetic (R230, R232 to R235) -/

/-- Curve membership: infinity, or y² ≡ (x² + a)·x + b (mod p) (R230). -/
def Point.onCurve (p : Point) : Bool :=
  match p with
  | .infinity => true
  | .affine x y => fMul y y == fAdd (fMul (fAdd (fMul x x) Config.SM2_a) x) Config.SM2_b

/-- JDBL_core (R232). -/
def jdblCore (j : Jac) : Jac :=
  if j.Z = 0 then Jac.infinity
  else
    let t := fMul j.Z j.Z
    let m := fMul 3 (fMul (fSub j.X t) (fAdd j.X t))
    let y2 := fMul j.Y j.Y
    let s := fMul 4 (fMul j.X y2)
    let x3 := fSub (fMul m m) (fMul 2 s)
    let y3 := fSub (fMul m (fSub s x3)) (fMul 8 (fMul y2 y2))
    let z3 := fMul 2 (fMul j.Y j.Z)
    ⟨x3, y3, z3⟩

/-- JADDM_core (R233). -/
def jaddmCore (j : Jac) (q : Point) : Jac :=
  match q with
  | .infinity => j
  | .affine x2 y2 =>
    if j.Z = 0 then ⟨x2, y2, 1⟩
    else
      let t := fMul j.Z j.Z
      let u2 := fMul x2 t
      let s2 := fMul (fMul y2 t) j.Z
      let h := fSub u2 j.X
      let r := fSub s2 j.Y
      if h = 0 then
        if r = 0 then jdblCore j else Jac.infinity
      else
        let h2 := fMul h h
        let h3 := fMul h2 h
        let v := fMul j.X h2
        let x3 := fSub (fSub (fMul r r) h3) (fMul 2 v)
        let y3 := fSub (fMul r (fSub v x3)) (fMul j.Y h3)
        ⟨x3, y3, fMul j.Z h⟩

/-- JFROM_core (R234). -/
def jfromCore (p : Point) : Jac :=
  match p with
  | .infinity => Jac.infinity
  | .affine x y => ⟨x, y, 1⟩

/-- JTOA_core (R234). -/
def jtoaCore (j : Jac) : Point :=
  if j.Z = 0 then .infinity
  else
    let zi := fInv j.Z
    let zi2 := fMul zi zi
    .affine (fMul j.X zi2) (fMul j.Y (fMul zi2 zi))

/-- The double-and-add loop over the scalar bits i−1 down to 0 (R235). -/
def pmulLoop (p : Point) (k : Nat) : Nat → Jac → Jac
  | 0, acc => acc
  | i + 1, acc =>
    let dbl := jdblCore acc
    pmulLoop p k i (if k.testBit i then jaddmCore dbl p else dbl)

/-- PMUL_core (R235). -/
def pmulCore (p : Point) (k : Nat) : Point :=
  if k = 0 ∨ p = .infinity then .infinity
  else jtoaCore (pmulLoop p k (bitlen k) Jac.infinity)

/-! ## Commands -/

/-- PLD pd, rs1, rs2: a finite point, coordinates reduced, not checked (R236). -/
def execPld (pd : PReg) (rs1 rs2 : RReg) (s : State) : Result :=
  succeed (s.writeA pd (.affine (fp (s.natR rs1)) (fp (s.natR rs2))))

/-- PST rdp, ps1: the reduced coordinates, or zeros and T = 1 for infinity (R237). -/
def execPst (rdp : RPair) (ps1 : PReg) (s : State) : Result :=
  withPair rdp s
    (match s.readA ps1 with
     | .infinity => succeed ((s.writePair rdp 0 0).setT true)
     | .affine x y =>
       succeed ((s.writePair rdp (BitVec.ofNat 256 x) (BitVec.ofNat 256 y)).setT false))

/-- PINF pd (R238). -/
def execPinf (pd : PReg) (s : State) : Result := succeed (s.writeA pd .infinity)

/-- PLDG pd: the generator (R239). -/
def execPldg (pd : PReg) (s : State) : Result :=
  succeed (s.writeA pd (.affine Config.SM2_Gx Config.SM2_Gy))

/-- PCHK ps1: T the on-curve test (R240). -/
def execPchk (ps1 : PReg) (s : State) : Result := succeed (s.setT (s.readA ps1).onCurve)

/-- The negation of a point: y flipped, no-op on infinity (R241). -/
def negCore (p : Point) : Point :=
  match p with
  | .infinity => .infinity
  | .affine x y => .affine x (fSub 0 y)

/-- PNEG pd, ps1 (R241). -/
def execPneg (pd ps1 : PReg) (s : State) : Result := s.pointResult pd (negCore (s.readA ps1))

/-- PADD pd, ps1, ps2 (R242). -/
def execPadd (pd ps1 ps2 : PReg) (s : State) : Result :=
  s.pointResult pd (jtoaCore (jaddmCore (jfromCore (s.readA ps1)) (s.readA ps2)))

/-- PDBL pd, ps1 (R243). -/
def execPdbl (pd ps1 : PReg) (s : State) : Result :=
  s.pointResult pd (jtoaCore (jdblCore (jfromCore (s.readA ps1))))

/-- PMUL pd, ps1, rs2 (R244). -/
def execPmul (pd ps1 : PReg) (rs2 : RReg) (s : State) : Result :=
  s.pointResult pd (pmulCore (s.readA ps1) (s.natR rs2))

/-- PEQ ps1, ps2: T = 1 for both infinity or equal reduced coordinates (R245). -/
def execPeq (ps1 ps2 : PReg) (s : State) : Result :=
  succeed (s.setT (s.readA ps1 == s.readA ps2))

/-- JFROM jd, ps1 (R246). -/
def execJfrom (jd : JReg) (ps1 : PReg) (s : State) : Result :=
  succeed ((s.writeJ jd (jfromCore (s.readA ps1))).setT (s.readA ps1).isInfinity)

/-- JTOA pd, js1 (R247). -/
def execJtoa (pd : PReg) (js1 : JReg) (s : State) : Result := s.pointResult pd (jtoaCore (s.readJ js1))

/-- JDBL jd, js1 (R248). -/
def execJdbl (jd js1 : JReg) (s : State) : Result := s.jacResult jd (jdblCore (s.readJ js1))

/-- JADDM jd, js1, ps2 (R249). -/
def execJaddm (jd js1 : JReg) (ps2 : PReg) (s : State) : Result :=
  s.jacResult jd (jaddmCore (s.readJ js1) (s.readA ps2))

end Sys2Proof.Machine
end

