-- ==== Sys2Proof/Machine/Sm3.lean ====
section
/-! DEFINITION. The SM3 compression function and its chaining value (spec R280 to R289). -/

namespace Sys2Proof.Machine

/-! ## Functions and constants (R282) -/

/-- P0 (R282). -/
def sm3P0 (x : Word) : Word := x ^^^ x.rotateLeft 9 ^^^ x.rotateLeft 17

/-- P1 (R282). -/
def sm3P1 (x : Word) : Word := x ^^^ x.rotateLeft 15 ^^^ x.rotateLeft 23

/-- FF_j (R282). -/
def sm3FF (j : Nat) (x y z : Word) : Word :=
  if j ≤ 15 then x ^^^ y ^^^ z else (x &&& y) ||| (x &&& z) ||| (y &&& z)

/-- GG_j (R282). -/
def sm3GG (j : Nat) (x y z : Word) : Word :=
  if j ≤ 15 then x ^^^ y ^^^ z else (x &&& y) ||| (~~~x &&& z)

/-- T_j (R282). -/
def sm3T (j : Nat) : Word := if j ≤ 15 then 0x79CC4519#32 else 0x7A879D8A#32

/-! ## Message expansion (R281, R283) -/

/-- The eight 32-bit words of a 256-bit value, most significant first (R39, R281). -/
def beWords (v : W256) : List Word :=
  [v.extractLsb' 224 32, v.extractLsb' 192 32, v.extractLsb' 160 32, v.extractLsb' 128 32,
   v.extractLsb' 96 32, v.extractLsb' 64 32, v.extractLsb' 32 32, v.extractLsb' 0 32]

/-- W_j from the words W_0 .. W_{j−1}, j ≥ 16 (R283). -/
def sm3NextWord (ws : List Word) (j : Nat) : Word :=
  sm3P1 (ws.getD (j - 16) 0 ^^^ ws.getD (j - 9) 0 ^^^ (ws.getD (j - 3) 0).rotateLeft 15)
    ^^^ (ws.getD (j - 13) 0).rotateLeft 7 ^^^ ws.getD (j - 6) 0

/-- n more message words (R283). -/
def sm3Extend : Nat → List Word → List Word
  | 0, ws => ws
  | n + 1, ws => sm3Extend n (ws ++ [sm3NextWord ws ws.length])

/-- W_0 .. W_67 of the block held in a register pair, the first 32 bytes in `lo` (R281, R283). -/
def sm3Expand (lo hi : W256) : List Word := sm3Extend 52 (beWords lo ++ beWords hi)

/-! ## Compression (R284) -/

/-- The eight working registers A..H (R284). -/
structure Sm3Regs where
  A : Word
  B : Word
  C : Word
  D : Word
  E : Word
  F : Word
  G : Word
  H : Word
  deriving DecidableEq, Repr

/-- The words V0 .. V7 of V, V0 the most significant (R39). -/
def Sm3Regs.ofV (v : W256) : Sm3Regs :=
  ⟨v.extractLsb' 224 32, v.extractLsb' 192 32, v.extractLsb' 160 32, v.extractLsb' 128 32,
   v.extractLsb' 96 32, v.extractLsb' 64 32, v.extractLsb' 32 32, v.extractLsb' 0 32⟩

/-- V0 ‖ V1 ‖ … ‖ V7 (R39). -/
def Sm3Regs.toV (r : Sm3Regs) : W256 := r.A ++ r.B ++ r.C ++ r.D ++ r.E ++ r.F ++ r.G ++ r.H

/-- Round j, the updates simultaneous; W′_j = W_j ⊕ W_{j+4} (R283, R284). -/
def sm3Round (w : List Word) (r : Sm3Regs) (j : Nat) : Sm3Regs :=
  let wj := w.getD j 0
  let wj' := wj ^^^ w.getD (j + 4) 0
  let a12 := r.A.rotateLeft 12
  let ss1 := (a12 + r.E + (sm3T j).rotateLeft (j % 32)).rotateLeft 7
  let ss2 := ss1 ^^^ a12
  let tt1 := sm3FF j r.A r.B r.C + r.D + ss2 + wj'
  let tt2 := sm3GG j r.E r.F r.G + r.H + ss1 + wj
  { A := tt1, B := r.A, C := r.B.rotateLeft 9, D := r.C,
    E := sm3P0 tt2, F := r.E, G := r.F.rotateLeft 19, H := r.G }

/-- The 64 rounds (R284). -/
def sm3Rounds (w : List Word) (r : Sm3Regs) : Sm3Regs := (List.range 64).foldl (sm3Round w) r

/-- CF(V, B): the rounds from V, then the XOR into V (R284). -/
def sm3CF (v lo hi : W256) : W256 := (sm3Rounds (sm3Expand lo hi) (Sm3Regs.ofV v)).toV ^^^ v

/-! ## Commands -/

/-- SM3INIT: V <- IV (R280, R285). -/
def execSm3init (s : State) : Result := succeed (s.setV Config.SM3_IV)

/-- SM3CF rs1p: compress the block of the pair into V (R286). -/
def execSm3cf (rs1p : RPair) (s : State) : Result :=
  withPair rs1p s
    (succeed (s.setV (sm3CF s.src.v (s.readR rs1p) (s.readR (pairHigh rs1p)))))

/-- SM3RD rd: R[rd] <- V (R287). -/
def execSm3rd (rd : RReg) (s : State) : Result := succeed (s.writeR rd s.src.v)

/-- SM3WR rs1: V <- R[rs1] (R288). -/
def execSm3wr (rs1 : RReg) (s : State) : Result := succeed (s.setV (s.readR rs1))

end Sys2Proof.Machine
end

