-- ==== Sys2Proof/Machine/Sm4.lean ====
section
/-! DEFINITION. SM4: substitution, diffusion, key schedule and block transformation (spec R300 to R327). -/

namespace Sys2Proof.Machine

/-! ## Tables and transforms (R300 to R305) -/

/-- The S-box table, one number per row of R300, column 0 in its most significant byte. -/
def sboxRows : List Nat :=
  [
   0xD690E9FECCE13DB716B614C228FB2C05,
   0x2B679A762ABE04C3AA44132649860699,
   0x9C4250F491EF987A33540B43EDCFAC62,
   0xE4B31CA9C908E89580DF94FA758F3FA6,
   0x4707A7FCF37317BA83593C19E6854FA8,
   0x686B81B27164DA8BF8EB0F4B70569D35,
   0x1E240E5E6358D1A225227C3B01217887,
   0xD40046579FD327524C3602E7A0C4C89E,
   0xEABF8AD240C738B5A3F7F2CEF96115A1,
   0xE0AE5DA49B341A55AD933230F58CB1E3,
   0x1DF6E22E8266CA60C02923AB0D534E6F,
   0xD5DB3745DEFD8E2F03FF6A726D6C5B51,
   0x8D1BAF92BBDDBC7F11D95C411F105AD8,
   0x0AC13188A5CD7BBD2D74D012B8E5B4B0,
   0x8969974A0C96777E65B9F109C56EC684,
   0x18F07DEC3ADC4D2079EE5F3ED7CB3948
  ]

/-- Sbox[16·hi + lo] is at row hi, column lo (R300). -/
def sbox (b : Byte) : Byte :=
  BitVec.ofNat 8 (sboxRows.getD (b.toNat / 16) 0 >>> (8 * (15 - b.toNat % 16)))

/-- Byte j of a word, byte 0 the most significant (R302, R305). -/
def beByte (w : Word) (j : Nat) : Byte := w.extractLsb' (24 - 8 * j) 8

/-- τ: the S-box on each of the four bytes (R302). -/
def tau (a : Word) : Word :=
  sbox (beByte a 0) ++ sbox (beByte a 1) ++ sbox (beByte a 2) ++ sbox (beByte a 3)

/-- L, the diffusion of the encryption rounds (R303). -/
def diffL (b : Word) : Word :=
  b ^^^ b.rotateLeft 2 ^^^ b.rotateLeft 10 ^^^ b.rotateLeft 18 ^^^ b.rotateLeft 24

/-- L′, the diffusion of the key-schedule rounds (R303). -/
def diffLK (b : Word) : Word := b ^^^ b.rotateLeft 13 ^^^ b.rotateLeft 23

/-- T = L ∘ τ (R303). -/
def roundT (x : Word) : Word := diffL (tau x)

/-- T′ = L′ ∘ τ (R303). -/
def roundTK (x : Word) : Word := diffLK (tau x)

/-- Byte j of CK_i is (4i + j)·7 mod 256 (R305). -/
def ckByte (i j : Nat) : Byte := BitVec.ofNat 8 ((4 * i + j) * 7)

/-- The round constant CK_i (R305). -/
def ck (i : Nat) : Word := ckByte i 0 ++ ckByte i 1 ++ ckByte i 2 ++ ckByte i 3

/-! ## Key schedule and block transformation (R301, R304, R306 to R308) -/

/-- The four words a Feistel round works on. -/
structure Quad where
  x0 : Word
  x1 : Word
  x2 : Word
  x3 : Word
  deriving DecidableEq, Repr

/-- A 128-bit value as four words, most significant first (R301). -/
def Quad.ofBits (b : BitVec 128) : Quad :=
  ⟨b.extractLsb' 96 32, b.extractLsb' 64 32, b.extractLsb' 32 32, b.extractLsb' 0 32⟩

/-- Four words as a 128-bit value, the first most significant (R301, R307). -/
def Quad.toBits (q : Quad) : BitVec 128 := q.x0 ++ q.x1 ++ q.x2 ++ q.x3

/-- The word shift of one round: the new word enters last (R312). -/
def Quad.shift (q : Quad) (x4 : Word) : Quad := ⟨q.x1, q.x2, q.x3, x4⟩

/-- The final reversal R (R307, R312). -/
def Quad.reverse (q : Quad) : Quad := ⟨q.x3, q.x2, q.x1, q.x0⟩

/-- The key words XORed with FK (R304, R306). -/
def keyStart (mk : BitVec 128) : Quad :=
  let q := Quad.ofBits mk
  ⟨q.x0 ^^^ 0xA3B1BAC6#32, q.x1 ^^^ 0x56AA3350#32, q.x2 ^^^ 0x677D9197#32, q.x3 ^^^ 0xB27022DC#32⟩

/-- K_{i+4} from K_i .. K_{i+3} (R306). -/
def keyWord (i : Nat) (q : Quad) : Word := q.x0 ^^^ roundTK (q.x1 ^^^ q.x2 ^^^ q.x3 ^^^ ck i)

/-- The next n round keys from round i on (R306). -/
def roundKeysFrom : Nat → Nat → Quad → List Word
  | 0, _, _ => []
  | n + 1, i, q =>
    let k := keyWord i q
    k :: roundKeysFrom n (i + 1) (q.shift k)

/-- KeyExp(MK): rk_0 .. rk_31 (R306). -/
def keyExp (mk : BitVec 128) : Vector Word 32 :=
  let ks := roundKeysFrom 32 0 (keyStart mk)
  Vector.ofFn fun i => ks.getD i.val 0

/-- One round: X_{i+4} <- X_i ⊕ T(X_{i+1} ⊕ X_{i+2} ⊕ X_{i+3} ⊕ k_i) (R307). -/
def sm4Round (q : Quad) (k : Word) : Quad :=
  q.shift (q.x0 ^^^ roundT (q.x1 ^^^ q.x2 ^^^ q.x3 ^^^ k))

/-- Crypt(X, keys): the rounds in the order of the keys, then R (R307). -/
def crypt (x : BitVec 128) (keys : List Word) : BitVec 128 :=
  (keys.foldl sm4Round (Quad.ofBits x)).reverse.toBits

/-- Encryption takes rk_0 .. rk_31 (R308). -/
def encryptBlock (rk : Vector Word 32) (x : BitVec 128) : BitVec 128 := crypt x rk.toList

/-- Decryption takes the round keys in reverse order (R308). -/
def decryptBlock (rk : Vector Word 32) (x : BitVec 128) : BitVec 128 := crypt x rk.toList.reverse

/-! ## Commands -/

/-- SM4KEY rs1: KeyExp of the low 128 bits into RK, KEYV <- 1 (R320). -/
def execSm4key (rs1 : RReg) (s : State) : Result :=
  succeed (s.setKeys (keyExp (low128 (s.readR rs1))))

/-- A block command: NO_KEY while KEYV = 0; otherwise the 128-bit result zero-extended (R301, R321,
R322). -/
def blockCommand (rd rs1 : RReg) (f : Vector Word 32 → BitVec 128 → BitVec 128) (s : State) : Result :=
  if s.src.keyv then
    succeed (s.writeR rd ((f s.src.rk (low128 (s.readR rs1))).setWidth 256))
  else raise .noKey s

/-- SM4ENC rd, rs1 (R321). -/
def execSm4enc (rd rs1 : RReg) (s : State) : Result := blockCommand rd rs1 encryptBlock s

/-- SM4DEC rd, rs1 (R322). -/
def execSm4dec (rd rs1 : RReg) (s : State) : Result := blockCommand rd rs1 decryptBlock s

/-- A command on the low word of a register, its 32-bit result zero-extended (R323 to R327). -/
def wordCommand (rd rs1 : RReg) (f : Word → Word) (s : State) : Result :=
  succeed (s.writeR rd ((f (low32 (s.readR rs1))).setWidth 256))

/-- SM4T rd, rs1 (R323). -/
def execSm4t (rd rs1 : RReg) (s : State) : Result := wordCommand rd rs1 roundT s

/-- SM4TK rd, rs1 (R324). -/
def execSm4tk (rd rs1 : RReg) (s : State) : Result := wordCommand rd rs1 roundTK s

/-- SM4SB rd, rs1 (R325). -/
def execSm4sb (rd rs1 : RReg) (s : State) : Result := wordCommand rd rs1 tau s

/-- SM4L rd, rs1 (R326). -/
def execSm4l (rd rs1 : RReg) (s : State) : Result := wordCommand rd rs1 diffL s

/-- SM4LK rd, rs1 (R327). -/
def execSm4lk (rd rs1 : RReg) (s : State) : Result := wordCommand rd rs1 diffLK s

end Sys2Proof.Machine
end

