-- ==== Sys2Proof/Machine/Dispatch.lean ====
section
/-! DEFINITION. exec: the effect of a command's completion, one arm per command (spec R74, R105). -/

namespace Sys2Proof.Machine

/-- The whole effect of one command as its completion event (R14, R74). -/
def exec (i : Instr) (s : State) : Host.Outcome State Fault Refusal :=
  match i with
  | .nop => Sys2Proof.Machine.execNop s
  | .mov rd rs1 => Sys2Proof.Machine.execMov rd rs1 s
  | .ldc rd k => Sys2Proof.Machine.execLdc rd k s
  | .ldi rd imm => Sys2Proof.Machine.execLdi rd imm s
  | .add rd rs1 rs2 => Sys2Proof.Machine.execAdd rd rs1 rs2 s
  | .sub rd rs1 rs2 => Sys2Proof.Machine.execSub rd rs1 rs2 s
  | .mul rdp rs1 rs2 => Sys2Proof.Machine.execMul rdp rs1 rs2 s
  | .sqr rdp rs1 => Sys2Proof.Machine.execSqr rdp rs1 s
  | .cmp rs1 rs2 => Sys2Proof.Machine.execCmp rs1 rs2 s
  | .bitlen rd rs1 => Sys2Proof.Machine.execBitlen rd rs1 s
  | .getbit rs1 k => Sys2Proof.Machine.execGetbit rs1 k s
  | .shl1 rd rs1 => Sys2Proof.Machine.execShl1 rd rs1 s
  | .shr1 rd rs1 => Sys2Proof.Machine.execShr1 rd rs1 s
  | .and rd rs1 rs2 => Sys2Proof.Machine.execAnd rd rs1 rs2 s
  | .madd rd rs1 rs2 rs3 => Sys2Proof.Machine.execMadd rd rs1 rs2 rs3 s
  | .msub rd rs1 rs2 rs3 => Sys2Proof.Machine.execMsub rd rs1 rs2 rs3 s
  | .mmul rd rs1 rs2 rs3 => Sys2Proof.Machine.execMmul rd rs1 rs2 rs3 s
  | .msqr rd rs1 rs3 => Sys2Proof.Machine.execMsqr rd rs1 rs3 s
  | .minv rd rs1 rs3 => Sys2Proof.Machine.execMinv rd rs1 rs3 s
  | .mpow rd rs1 rs2 rs3 => Sys2Proof.Machine.execMpow rd rs1 rs2 rs3 s
  | .mred rd rs1p rs3 => Sys2Proof.Machine.execMred rd rs1p rs3 s
  | .fred rd rs1p => Sys2Proof.Machine.execFred rd rs1p s
  | .fadd rd rs1 rs2 => Sys2Proof.Machine.execFadd rd rs1 rs2 s
  | .fsub rd rs1 rs2 => Sys2Proof.Machine.execFsub rd rs1 rs2 s
  | .fmul rd rs1 rs2 => Sys2Proof.Machine.execFmul rd rs1 rs2 s
  | .fsqr rd rs1 => Sys2Proof.Machine.execFsqr rd rs1 s
  | .fneg rd rs1 => Sys2Proof.Machine.execFneg rd rs1 s
  | .finv rd rs1 => Sys2Proof.Machine.execFinv rd rs1 s
  | .fnorm rd rs1 => Sys2Proof.Machine.execFnorm rd rs1 s
  | .pld pd rs1 rs2 => Sys2Proof.Machine.execPld pd rs1 rs2 s
  | .pst rdp ps1 => Sys2Proof.Machine.execPst rdp ps1 s
  | .pinf pd => Sys2Proof.Machine.execPinf pd s
  | .pldg pd => Sys2Proof.Machine.execPldg pd s
  | .pchk ps1 => Sys2Proof.Machine.execPchk ps1 s
  | .pneg pd ps1 => Sys2Proof.Machine.execPneg pd ps1 s
  | .padd pd ps1 ps2 => Sys2Proof.Machine.execPadd pd ps1 ps2 s
  | .pdbl pd ps1 => Sys2Proof.Machine.execPdbl pd ps1 s
  | .pmul pd ps1 rs2 => Sys2Proof.Machine.execPmul pd ps1 rs2 s
  | .peq ps1 ps2 => Sys2Proof.Machine.execPeq ps1 ps2 s
  | .jfrom jd ps1 => Sys2Proof.Machine.execJfrom jd ps1 s
  | .jtoa pd js1 => Sys2Proof.Machine.execJtoa pd js1 s
  | .jdbl jd js1 => Sys2Proof.Machine.execJdbl jd js1 s
  | .jaddm jd js1 ps2 => Sys2Proof.Machine.execJaddm jd js1 ps2 s
  | .sm3init => Sys2Proof.Machine.execSm3init s
  | .sm3cf rs1p => Sys2Proof.Machine.execSm3cf rs1p s
  | .sm3rd rd => Sys2Proof.Machine.execSm3rd rd s
  | .sm3wr rs1 => Sys2Proof.Machine.execSm3wr rs1 s
  | .sm4key rs1 => Sys2Proof.Machine.execSm4key rs1 s
  | .sm4enc rd rs1 => Sys2Proof.Machine.execSm4enc rd rs1 s
  | .sm4dec rd rs1 => Sys2Proof.Machine.execSm4dec rd rs1 s
  | .sm4t rd rs1 => Sys2Proof.Machine.execSm4t rd rs1 s
  | .sm4tk rd rs1 => Sys2Proof.Machine.execSm4tk rd rs1 s
  | .sm4sb rd rs1 => Sys2Proof.Machine.execSm4sb rd rs1 s
  | .sm4l rd rs1 => Sys2Proof.Machine.execSm4l rd rs1 s
  | .sm4lk rd rs1 => Sys2Proof.Machine.execSm4lk rd rs1 s

end Sys2Proof.Machine
end

