-- ==== Sys2Proof/Machine/Completion.lean ====
section
/-! DEFINITION. The completion event and the block's reaction to each event (spec R71, R74, R75, R113,
R450). -/

namespace Sys2Proof.Machine

/-- The completion of the command in flight: decoding is part of the effect (R74); a word that spells no
command ends with ILLEGAL (R110, R113). With no command in flight there is no completion (R43). -/
def completeInFlight (s : State) : Result :=
  match s.inflight with
  | none => .next s
  | some f =>
    match decodeWord f.word with
    | .ok i => exec i s
    | .error _ => raise .illegal s

/-- One event while the reset input is asserted: transactions have no effect, and nothing completes
(R450, R453). -/
def reactInReset (e : Event) (s : State) : Result :=
  match e with
  | .read _ _ => .next (s.answerInReset true)
  | .write _ _ _ => .next (s.answerInReset false)
  | .complete => .next s
  | .resetInput asserted => .next (s.setResetInput asserted)

/-- One event while the reset input is not asserted (R71). -/
def reactRunning (e : Event) (s : State) : Result :=
  match e with
  | .read off size => .next (s.busRead off size)
  | .write off size data => .next (s.busWrite off size data)
  | .complete => completeInFlight s
  | .resetInput asserted => .next (s.setResetInput asserted)

/-- The block's reaction to one event (R71, R450). -/
def react (e : Event) (s : State) : Result :=
  if s.inReset then reactInReset e s else reactRunning e s

/-- With no event to come, a command in flight completes (R75: every accepted command completes unless a
reset intervenes); otherwise the block executes nothing (R451). -/
def settle (s : State) : Result := if s.inReset then .next s else completeInFlight s

/-- The state in which the next event is the completion of the accepted word w: acceptance (R73), the
reset input not asserted, and the completion event first in the list. -/
def State.loadCommand (s : State) (w : Word) : State :=
  { s.accept w with events := .complete :: s.events, inReset := false }

end Sys2Proof.Machine
end

