-- ==== Sys2Proof/Machine/Step.lean ====
section
/-! DEFINITION. One step: the next event of the block's event sequence (spec R71), and the placing of a
command where the next step runs it. -/

namespace Sys2Proof.Machine

/-- One step takes the first event to come and lets the block react to it (R71); with none to come, a
command in flight completes (R75). -/
def step (s : State) : Host.Outcome State Fault Refusal :=
  match s.events with
  | [] => settle s
  | e :: rest => react e { s with events := rest }

/-- `s` with the command word of `nbits` bits `w` accepted and its completion the next event, so that the
very next step runs exactly it. -/
def State.withFetchWord (s : State) (nbits w : Nat) : State :=
  s.loadCommand (BitVec.ofNat 32 (w % 2 ^ nbits))

end Sys2Proof.Machine
end

