-- ==== Sys2Proof/Safety.lean ====
section
/-! DEFINITION. The terms in which claims speak: the invariant of the block, what a successful and an error
completion leave outside the registers, and which registers a command leaves unchanged. -/

namespace Sys2Proof.Machine

/-- The invariant of the block: what the spec says of every reachable state, and log 8's clause about an
asserted reset input. -/
structure State.Inv (s : State) : Prop where
  /-- A command is in flight exactly when BUSY = 1 (R43, R52). -/
  busyInFlight : s.busy = s.inflight.isSome
  /-- The command in flight is the latched word, and its snapshot is the live registers (R48, R52). -/
  snapshotLive : ∀ f, s.inflight = some f → f.word = s.cmd ∧ f.snap = s.data
  /-- While a command is in flight DONE and ERR are 0 (R44, R45, R73). -/
  busyClear : s.busy = true → s.done = false ∧ s.err = false
  /-- ERRCODE is 0 exactly when ERR = 0 (R42, R45, R401). -/
  codeWithErr : s.err = false ↔ s.errcode = 0
  /-- ERRCODE is one of 0..4 (R401). -/
  codeRange : s.errcode.toNat ≤ 4
  /-- While no key has been loaded the round keys are at their reset value (R47, R50, R54). -/
  keysUnset : s.data.keyv = false → s.data.rk = Vector.replicate 32 0
  /-- While the reset input is asserted the block is at its reset values: the model's choice, log 8 (R450
  gives the values at the deassertion). -/
  heldInReset : s.inReset = true → s = s.resetBlock

/-- `t` is `s` after a completion, as far as everything outside the registers and the error bits goes:
BUSY, DONE and the command in flight as R74 says, everything else unchanged. -/
structure Completes (s t : State) : Prop where
  busy : t.busy = false
  done : t.done = true
  inflight : t.inflight = none
  ie : t.ie = s.ie
  ovr : t.ovr = s.ovr
  cmd : t.cmd = s.cmd
  inReset : t.inReset = s.inReset
  events : t.events = s.events
  response : t.response = s.response
  draws : t.draws = s.draws

/-- A completion with success: ERR and ERRCODE unchanged (R45, R74). -/
structure Succeeds (s t : State) : Prop extends Completes s t where
  err : t.err = s.err
  errcode : t.errcode = s.errcode

/-- A completion with error `e`: ERR and ERRCODE set, no register and no flag written (R403). -/
structure Fails (e : CmdError) (s t : State) : Prop extends Completes s t where
  err : t.err = true
  errcode : t.errcode = e.code
  data : t.data = s.data

/-- Every operand register but those listed is unchanged. -/
def KeepsR (s t : State) (written : List RReg) : Prop :=
  ∀ k : RReg, k ∉ written → t.data.r[k] = s.data.r[k]

/-- Every affine point register but those listed is unchanged. -/
def KeepsPA (s t : State) (written : List PReg) : Prop :=
  ∀ k : PReg, k ∉ written → t.data.pa[k] = s.data.pa[k]

/-- Every Jacobian point register but those listed is unchanged. -/
def KeepsPJ (s t : State) (written : List JReg) : Prop :=
  ∀ k : JReg, k ∉ written → t.data.pj[k] = s.data.pj[k]

/-- The round keys and KEYV are unchanged. -/
def KeepsKeys (s t : State) : Prop := t.data.rk = s.data.rk ∧ t.data.keyv = s.data.keyv

/-- The three flags are unchanged. -/
def KeepsFlags (s t : State) : Prop :=
  t.data.c = s.data.c ∧ t.data.z = s.data.z ∧ t.data.t = s.data.t

/-- The frame of a command that succeeds and writes no register but the listed operand registers and,
possibly, flags. The block has no memory (R14, R72). -/
structure WritesR (s t : State) (written : List RReg) : Prop extends Succeeds s t where
  r : KeepsR s t written
  pa : KeepsPA s t []
  pj : KeepsPJ s t []
  v : t.data.v = s.data.v
  keys : KeepsKeys s t

/-- The frame of a command that succeeds and writes one affine point register and, possibly, flags. -/
structure WritesPA (s t : State) (written : PReg) : Prop extends Succeeds s t where
  r : KeepsR s t []
  pa : KeepsPA s t [written]
  pj : KeepsPJ s t []
  v : t.data.v = s.data.v
  keys : KeepsKeys s t

/-- The frame of a command that succeeds and writes one Jacobian point register and, possibly, flags. -/
structure WritesPJ (s t : State) (written : JReg) : Prop extends Succeeds s t where
  r : KeepsR s t []
  pa : KeepsPA s t []
  pj : KeepsPJ s t [written]
  v : t.data.v = s.data.v
  keys : KeepsKeys s t

/-- The frame of a command that succeeds and writes V, and no flag. -/
structure WritesV (s t : State) : Prop extends Succeeds s t where
  r : KeepsR s t []
  pa : KeepsPA s t []
  pj : KeepsPJ s t []
  keys : KeepsKeys s t
  flags : KeepsFlags s t

/-- The frame of a command that succeeds and writes the round keys and KEYV, and no flag. -/
structure WritesKeys (s t : State) : Prop extends Succeeds s t where
  r : KeepsR s t []
  pa : KeepsPA s t []
  pj : KeepsPJ s t []
  v : t.data.v = s.data.v
  flags : KeepsFlags s t

/-- A transaction that is not a soft reset: a read, or a write that does not put 1 in CTRL bit 1 (R452). -/
def Event.isTraffic (e : Event) : Bool :=
  match e with
  | .read _ _ => true
  | .write off size data => !(legalAccess off size && windowAt off.toNat == .ctrl && data.getLsbD 1)
  | .complete => false
  | .resetInput _ => false

end Sys2Proof.Machine
end

