-- ==== Sys2Proof/Certificates/Slice0/Obligations.lean ====
section
/-! DEFINITION. The statements for the provers: what the rules of the spec say of the encoding, of the
block's events, of its invariant and of every command. `s.natR i` is R[i] as the command reads it
(R14, R52); in every state that meets the invariant it is the live register. -/

open Sys2Proof Sys2Proof.Machine

/-! ## Encoding and decoding -/

/-- Decoding the word of a well-formed command gives the command back, as a word and as bytes (R104,
R112). -/
def Obligations.DecodeInvertsEncode : Prop :=
  ∀ i : Instr, i.wf = true →
    decodeWord (encode i) = .ok i ∧
      ∀ rest : List Byte, decode (bytesOfWord (encode i) ++ rest) = .ok (i, rest)

/-- A word that decodes is the word of the command it decodes to: each word has one meaning, and every
decoded command is well-formed (R104, R112). -/
def Obligations.EncodeInvertsDecode : Prop :=
  ∀ (w : Word) (i : Instr), decodeWord w = .ok i → i.wf = true ∧ encode i = w

/-- A word that a row accepts is accepted by that row only, and spells that row's command (R104). -/
def Obligations.MatchingRowDecodes : Prop :=
  ∀ (w : Word) (row : Row), row ∈ opcodeTable → w &&& row.mask = row.mtch →
    opcodeTable.filter (fun r => w &&& r.mask == r.mtch) = [row] ∧ decodeWord w = .ok (row.build w)

/-- A row's mask and match test exactly the field conditions of R103, and the reserved OP values are
exactly those of R107. -/
def Obligations.MasksTestFieldUses : Prop :=
  (∀ (w : Word) (row : Row), row ∈ opcodeTable → opOf row.mtch = opOf w →
    (w &&& row.mask = row.mtch ↔
      row.uses.rd.breach (rdOf w) = none ∧ row.uses.rs1.breach (rs1Of w) = none ∧
      row.uses.rs2.breach (rs2Of w) = none ∧ row.uses.rs3.breach (rs3Of w) = none ∧
      row.uses.imm.breachImm (immOf w) = none)) ∧
  ∀ w : Word, decodeWord w = .error .reservedOp ↔
    let op := (opOf w).toNat
    (0x04 ≤ op ∧ op ≤ 0x0F) ∨ (0x1A ≤ op ∧ op ≤ 0x1F) ∨ (0x27 ≤ op ∧ op ≤ 0x2F) ∨
      (0x38 ≤ op ∧ op ≤ 0x3F) ∨ (0x4E ≤ op ∧ op ≤ 0x4F) ∨ (0x54 ≤ op ∧ op ≤ 0x5F) ∨ 0x68 ≤ op

/-- A word is illegal exactly when no row matches it; it is accepted like any other, and completes with
ILLEGAL, writing no register and no flag (R110, R113). -/
def Obligations.IllegalWordCompletesWithIllegal : Prop :=
  (∀ w : Word, (∃ e, decodeWord w = .error e) ↔ ∀ row ∈ opcodeTable, w &&& row.mask ≠ row.mtch) ∧
  (∀ (s : State) (w : Word), s.busy = false → s.err = false →
    s.submit w = { s with cmd := w, busy := true, done := false, inflight := some ⟨w, s.data⟩ }) ∧
  ∀ (s : State) (f : InFlight), s.inflight = some f →
    (∀ row ∈ opcodeTable, f.word &&& row.mask ≠ row.mtch) →
    ∃ t, completeInFlight s = .next t ∧ Fails .illegal s t

/-- The worked encodings of R119 (a sanity check). -/
def Obligations.WorkedEncodings : Prop :=
  decodeWord 0x00021310#32 = .ok (.add 3 1 2) ∧ decodeWord 0x00021412#32 = .ok (.mul 4 1 2) ∧
  decodeWord 0x03000002#32 = .ok (.ldc 0 3) ∧ decodeWord 0xFF005016#32 = .ok (.getbit 5 255) ∧
  decodeWord 0x00010246#32 = .ok (.padd 2 0 1) ∧ decodeWord 0x00040348#32 = .ok (.pmul 3 0 4) ∧
  decodeWord 0x00000051#32 = .ok (.sm3cf 0) ∧ decodeWord 0x00000161#32 = .ok (.sm4enc 1 0) ∧
  decodeWord 0x00021312#32 = .error .oddPair ∧ decodeWord 0x00F21320#32 = .ok (.madd 3 1 2 15)

/-! ## The step and the events -/

/-- What a step does with each event. With the reset input not asserted, a read is busRead, a write is
busWrite and a change of the reset input is setResetInput of the state with the event taken off, and a
completion is exec of the command in flight when it decodes, completeInFlight in any case and nothing
when no command is in flight. While the input is asserted, transactions are answered by answerInReset,
nothing completes, and the input can change. With no event to come the step is the completion of the
command in flight, or nothing; and a command placed by withFetchWord is what the very next step runs.
(R71, R74 and R450; the event list, the step with no event, withFetchWord and the answer given during
the reset are the model's choices, logs 1 to 4 and 8.) -/
def Obligations.StepRunsDecodedCommand : Prop :=
  (∀ (s : State) (rest : List Event), s.inReset = false →
    let u := { s with events := rest }
    (∀ off size, s.events = .read off size :: rest → step s = .next (u.busRead off size)) ∧
    (∀ off size w, s.events = .write off size w :: rest → step s = .next (u.busWrite off size w)) ∧
    (∀ b, s.events = .resetInput b :: rest → step s = .next (u.setResetInput b)) ∧
    (s.events = .complete :: rest →
      step s = completeInFlight u ∧
      (s.inflight = none → step s = .next u) ∧
      ∀ (f : InFlight) (i : Instr), s.inflight = some f → decodeWord f.word = .ok i →
        step s = exec i u)) ∧
  (∀ (s : State) (rest : List Event), s.inReset = true →
    let u := { s with events := rest }
    (∀ off size, s.events = .read off size :: rest → step s = .next (u.answerInReset true)) ∧
    (∀ off size w, s.events = .write off size w :: rest → step s = .next (u.answerInReset false)) ∧
    (∀ b, s.events = .resetInput b :: rest → step s = .next (u.setResetInput b)) ∧
    (s.events = .complete :: rest → step s = .next u)) ∧
  (∀ s : State, s.events = [] →
    (s.inReset = true ∨ s.inflight = none → step s = .next s) ∧
    (s.inReset = false → step s = completeInFlight s ∧
      ∀ (f : InFlight) (i : Instr), s.inflight = some f → decodeWord f.word = .ok i →
        step s = exec i s)) ∧
  ∀ (s : State) (w : Word) (i : Instr), decodeWord w = .ok i →
    step (s.withFetchWord 32 w.toNat) = exec i { s.accept w with inReset := false }

/-- Every command, in every state, completes with success or with exactly one error; an error writes ERR,
ERRCODE, BUSY and DONE and nothing else (R400, R403). -/
def Obligations.CompletionIsSuccessOrOneError : Prop :=
  ∀ (i : Instr) (s : State), ∃ t, exec i s = .next t ∧ (Succeeds s t ∨ ∃ e, Fails e s t)

/-- Each error code is raised only by the commands, and only under the conditions, that R401 lists
(R401, R402). -/
def Obligations.ErrorsComeFromTheirCommands : Prop :=
  ∀ (i : Instr) (s t : State), s.err = false → exec i s = .next t → t.err = true →
    (t.errcode = 1 ∧ i.wf = false) ∨
    (t.errcode = 2 ∧ s.src.keyv = false ∧ ∃ rd rs1, i = .sm4enc rd rs1 ∨ i = .sm4dec rd rs1) ∨
    (t.errcode = 3 ∧ ∃ rd rs1 rs2 m, s.natR m = 0 ∧
      (i = .madd rd rs1 rs2 m ∨ i = .msub rd rs1 rs2 m ∨ i = .mmul rd rs1 rs2 m ∨
        i = .msqr rd rs1 m ∨ i = .minv rd rs1 m ∨ i = .mpow rd rs1 rs2 m ∨ i = .mred rd rs1 m)) ∨
    (t.errcode = 4 ∧ ∃ rd rs1 m,
      (i = .minv rd rs1 m ∧ s.natR m ≠ 0 ∧ s.natR rs1 % s.natR m = 0) ∨
      (i = .finv rd rs1 ∧ s.natR rs1 % Config.SM2_p = 0))

/-- A step never stops: whatever the state and the event, there is a next state (R70, R400, R413). -/
def Obligations.StepAlwaysAnswersNext : Prop := ∀ s : State, ∃ t, step s = .next t

/-- The reset state meets the invariant. -/
def Obligations.ResetMeetsInv : Prop := State.reset.Inv

/-- Every step keeps the invariant (R43 to R45, R47, R48, R50, R52, R401). Its clause heldInReset, that the
block stands at its reset values from the assertion of the reset input on, is the model's choice, log 8:
R450 gives the values only at the deassertion. -/
def Obligations.StepKeepsInv : Prop := ∀ s t : State, s.Inv → step s = .next t → t.Inv

/-- An accepted command leaves BUSY within the events still to come and one more step, by its completion
or by a reset (the fairness that R75 lets a model assume; the form is the model's choice, logs 1
and 2). -/
def Obligations.AcceptedCommandCompletes : Prop :=
  ∀ s : State, s.Inv → s.busy = true →
    ∃ n t, 0 < n ∧ n ≤ s.events.length + 1 ∧ core.run n s = .next t ∧ t.busy = false ∧
      (t.done = true ∨ t = t.resetBlock)

/-- No bus traffic between acceptance and completion, short of a soft reset, can change what the command
in flight does: the registers, the CMD latch, ERR and ERRCODE end as without the traffic (R85, R91). -/
def Obligations.TrafficCannotChangeAcceptedCommand : Prop :=
  ∀ (s : State) (traffic : List Event), s.Inv → s.busy = true → s.inReset = false →
    (∀ e ∈ traffic, e.isTraffic = true) →
    ∃ t u, core.run (traffic.length + 1) { s with events := traffic ++ [.complete] } = .next t ∧
      core.run 1 { s with events := [.complete] } = .next u ∧
      t.data = u.data ∧ t.cmd = u.cmd ∧ t.err = u.err ∧ t.errcode = u.errcode ∧ t.busy = u.busy ∧
      t.done = u.done

/-! ## The register window -/

/-- A CMD write is accepted when BUSY = 0 and ERR = 0, and otherwise dropped with OVR (R73); while BUSY = 1
a write to a writable data register is dropped with OVR (R85); each gets OKAY. -/
def Obligations.WritesAreAcceptedOrDroppedWithOvr : Prop :=
  ∀ (s : State) (w : Word),
    s.busWrite 0x00C 32 w =
      (if s.busy = false ∧ s.err = false then
        { s with cmd := w, busy := true, done := false, inflight := some ⟨w, s.data⟩,
                 response := some ⟨true, none⟩ }
      else { s with ovr := true, response := some ⟨true, none⟩ }) ∧
    ∀ off : BitVec 12, s.busy = true → off.toNat % 4 = 0 →
      (off.toNat = 0x010 ∨ (0x100 ≤ off.toNat ∧ off.toNat < 0x580) ∨
        (0x600 ≤ off.toNat ∧ off.toNat < 0x620)) →
      s.busWrite off 32 w = { s with ovr := true, response := some ⟨true, none⟩ }

/-- Any access but 32 bits at a multiple of 4 gets ERROR, reads 0 and changes nothing; every other access
gets OKAY (R76). -/
def Obligations.OnlyAlignedWordsAreLegal : Prop :=
  ∀ (s : State) (off : BitVec 12) (size : Nat) (w : Word),
    ((size ≠ 32 ∨ off.toNat % 4 ≠ 0) →
      s.busRead off size = { s with response := some ⟨false, some 0⟩ } ∧
      s.busWrite off size w = { s with response := some ⟨false, none⟩ }) ∧
    (size = 32 → off.toNat % 4 = 0 →
      (∃ d, (s.busRead off size).response = some ⟨true, some d⟩) ∧
      (s.busWrite off size w).response = some ⟨true, none⟩)

/-- Reads change nothing in the block; with BUSY = 0 every register stands where the address map says,
its least significant word lowest; ID, CTRL, STATUS, CMD and the reserved offsets read the same at any
BUSY (R78, R80, R81, R84, R87). With BUSY = 1 a data register reads as a free value (R86); that the
free value is Config.busyRead of the count of draws, and that the count goes up by one, is the model's
choice, log 7. -/
def Obligations.ReadsFollowTheAddressMap : Prop :=
  ∀ s : State,
    (∀ off size, s.busRead off size =
      { s with response := (s.busRead off size).response, draws := (s.busRead off size).draws }) ∧
    (let ask := fun off : Nat => (s.busRead (BitVec.ofNat 12 off) 32).response
     let is := fun w : Word => some (BusResponse.mk true (some w))
     ask 0x000 = is 0x534D5807 ∧ ask 0x004 = is (if s.ie then 1 else 0) ∧
     ask 0x008 = is s.statusWord ∧ ask 0x00C = is s.cmd ∧
     (∀ off, off % 4 = 0 → (0x014 ≤ off ∧ off < 0x100) ∨ (0x580 ≤ off ∧ off < 0x600) ∨
       (0x620 ≤ off ∧ off < 0x700) ∨ (0x780 ≤ off ∧ off < 0x1000) → ask off = is 0) ∧
     (s.busy = false →
       (∀ n : Fin 32, (s.data.painfWord).getLsbD n.val =
         if h : n.val < 4 then s.data.pa[n.val].inf else false) ∧
       ask 0x010 = is s.data.painfWord ∧
       (∀ (i : Fin 32), ask (0x700 + 4 * i.val) = is s.data.rk[i]) ∧
       ∀ k : Fin 8,
         ask (0x600 + 4 * k.val) = is (s.data.v.extractLsb' (32 * k.val) 32) ∧
         (∀ i : RReg, ask (0x100 + 0x20 * i.val + 4 * k.val) =
           is (s.data.r[i].extractLsb' (32 * k.val) 32)) ∧
         ∀ i : Fin 4,
           ask (0x300 + 0x40 * i.val + 4 * k.val) = is (s.data.pa[i].x.extractLsb' (32 * k.val) 32) ∧
           ask (0x320 + 0x40 * i.val + 4 * k.val) = is (s.data.pa[i].y.extractLsb' (32 * k.val) 32) ∧
           ask (0x400 + 0x60 * i.val + 4 * k.val) = is (s.data.pj[i].X.extractLsb' (32 * k.val) 32) ∧
           ask (0x420 + 0x60 * i.val + 4 * k.val) = is (s.data.pj[i].Y.extractLsb' (32 * k.val) 32) ∧
           ask (0x440 + 0x60 * i.val + 4 * k.val) = is (s.data.pj[i].Z.extractLsb' (32 * k.val) 32)) ∧
     (s.busy = true → ∀ off, off % 4 = 0 → (off = 0x010 ∨ (0x100 ≤ off ∧ off < 0x580) ∨
       (0x600 ≤ off ∧ off < 0x620) ∨ (0x700 ≤ off ∧ off < 0x780)) →
       ask off = is (Config.busyRead s.draws) ∧
       (s.busRead (BitVec.ofNat 12 off) 32).draws = s.draws + 1))

/-- With BUSY = 0 a write to a word of a writable data register makes that word read as written (PAINF:
its four low bits), leaves every other word of the window as it was, and leaves STATUS and the rest
alone: a write changes those 32 bits only (R49, R83, R88). -/
def Obligations.WindowWordWriteThenRead : Prop :=
  ∀ (s : State) (off off' : BitVec 12) (w : Word), s.busy = false →
    off.toNat % 4 = 0 → off'.toNat % 4 = 0 →
    (off.toNat = 0x010 ∨ (0x100 ≤ off.toNat ∧ off.toNat < 0x580) ∨
      (0x600 ≤ off.toNat ∧ off.toNat < 0x620)) →
    let t := s.busWrite off 32 w
    t = { s with data := t.data, response := some ⟨true, none⟩ } ∧
    (t.busRead off 32).response =
      some ⟨true, some (if off.toNat = 0x010 then w &&& 0xF else w)⟩ ∧
    (off' ≠ off → (t.busRead off' 32).response = (s.busRead off' 32).response)

/-- A write to a read-only register (ID, RK) or a reserved offset changes nothing, at any BUSY, and gets
OKAY; reserved and read-only bits of CTRL, STATUS and PAINF ignore what is written; reserved offsets and
bits read 0 (R81, R82). -/
def Obligations.ReadOnlyAndReservedIgnoreWrites : Prop :=
  ∀ (s : State) (off : BitVec 12) (w : Word), off.toNat % 4 = 0 →
    let reserved := (0x014 ≤ off.toNat ∧ off.toNat < 0x100) ∨
      (0x580 ≤ off.toNat ∧ off.toNat < 0x600) ∨ (0x620 ≤ off.toNat ∧ off.toNat < 0x700) ∨
      0x780 ≤ off.toNat
    (off.toNat = 0x000 ∨ (0x700 ≤ off.toNat ∧ off.toNat < 0x780) ∨ reserved →
      s.busWrite off 32 w = { s with response := some ⟨true, none⟩ }) ∧
    (reserved → s.busRead off 32 = { s with response := some ⟨true, some 0⟩ }) ∧
    s.busWrite 0x004 32 w = s.busWrite 0x004 32 (w &&& 0x3) ∧
    s.busWrite 0x008 32 w = s.busWrite 0x008 32 (w &&& 0xE) ∧
    s.busWrite 0x010 32 w = s.busWrite 0x010 32 (w &&& 0xF) ∧
    s.ctrlWord &&& 0xFFFFFFFE = 0 ∧ s.statusWord &&& 0xFFF8F0E0 = 0 ∧
    s.data.painfWord &&& 0xFFFFFFF0 = 0

/-- STATUS reads as its table says, 0 after reset, and a write clears each W1C bit written 1, ERRCODE with
ERR, and changes nothing else (R42). -/
def Obligations.StatusReadsAndClears : Prop :=
  State.reset.statusWord = 0 ∧ ∀ (s : State) (w : Word),
    (∀ n : Fin 32, s.statusWord.getLsbD n.val =
      if n.val = 0 then s.busy else if n.val = 1 then s.done else if n.val = 2 then s.err
      else if n.val = 3 then s.ovr else if n.val = 4 then s.data.keyv
      else if 8 ≤ n.val ∧ n.val ≤ 11 then s.errcode.getLsbD (n.val - 8)
      else if n.val = 16 then s.data.c else if n.val = 17 then s.data.z
      else if n.val = 18 then s.data.t else false) ∧
    s.busWrite 0x008 32 w =
      { s with
        done := if w.getLsbD 1 then false else s.done
        err := if w.getLsbD 2 then false else s.err
        errcode := if w.getLsbD 2 then 0 else s.errcode
        ovr := if w.getLsbD 3 then false else s.ovr
        response := some ⟨true, none⟩ }

/-- After an error the host must clear ERR before it submits again: while ERR = 1 a CMD write is dropped
and sets OVR, and after a write of 1 to STATUS bit 2, which also clears ERRCODE, the next CMD write is
accepted (R410). -/
def Obligations.ErrorBlocksUntilCleared : Prop :=
  ∀ (s : State) (w v : Word), s.err = true →
    s.busWrite 0x00C 32 w = { s with ovr := true, response := some ⟨true, none⟩ } ∧
    (s.busy = false → v.getLsbD 2 = true →
      let t := s.busWrite 0x008 32 v
      t.err = false ∧ t.errcode = 0 ∧ t.data = s.data ∧
        (t.busWrite 0x00C 32 w).inflight = some ⟨w, s.data⟩ ∧ (t.busWrite 0x00C 32 w).busy = true)

/-- IRQ is IE ∧ DONE; it falls when DONE is cleared by the host or by the next acceptance, or when the
block has been reset, by the reset input or by CTRL.SRST, and rises at once when IE is set while
DONE = 1 (R412). -/
def Obligations.IrqFollowsDoneAndEnable : Prop :=
  ∀ (s : State) (w : Word),
    s.irq = (s.ie && s.done) ∧
    (w.getLsbD 1 = true → (s.busWrite 0x008 32 w).irq = false) ∧
    (s.busy = false → s.err = false → (s.busWrite 0x00C 32 w).irq = false) ∧
    (w.getLsbD 1 = true → (s.busWrite 0x004 32 w).irq = false) ∧
    ((s.setResetInput true).setResetInput false).irq = false ∧
    (w.getLsbD 1 = false → (s.busWrite 0x004 32 w).irq = (w.getLsbD 0 && s.done))

/-! ## Reset -/

/-- After reset everything is 0 but PAINF = 0xF and V = IV, and no command is in flight (R54, R450). -/
def Obligations.ResetValues : Prop :=
  let s := State.reset
  (∀ i : RReg, s.data.r[i] = 0) ∧ (∀ i : PReg, s.data.pa[i] = ⟨0, 0, true⟩) ∧
  (∀ i : JReg, s.data.pj[i] = ⟨0, 0, 0⟩) ∧ (∀ i : Fin 32, s.data.rk[i] = 0) ∧
  s.data.v = 0x7380166F4914B2B9172442D7DA8A0600A96F30BC163138AAE38DEE4DB0FB0E4E#256 ∧
  s.statusWord = 0 ∧ s.ctrlWord = 0 ∧ s.cmd = 0 ∧ s.data.painfWord = 0xF ∧ s.inflight = none ∧
  s.irq = false

/-- A write to CTRL at any BUSY and ERR: with bit 1 = 1 it is a soft reset whatever else is written, so that
every register of the block takes its reset value, IE included; with bit 1 = 0 it sets IE to bit 0 and
changes nothing else. The write gets OKAY, CTRL reads IE in bit 0 and 0 elsewhere, SRST included, and IE
enables IRQ (R41, R452). -/
def Obligations.SoftResetRestoresReset : Prop :=
  ∀ (s : State) (w : Word),
    let t := s.busWrite 0x004 32 w
    (w.getLsbD 1 = true →
      t = { State.reset with
            events := s.events, draws := s.draws, inReset := s.inReset,
            response := some ⟨true, none⟩ } ∧ t.ctrlWord = 0) ∧
    (w.getLsbD 1 = false →
      t = { s with ie := w.getLsbD 0, response := some ⟨true, none⟩ }) ∧
    s.ctrlWord = (if s.ie then 1 else 0) ∧ State.reset.ctrlWord = 0 ∧ s.irq = (s.ie && s.done)

/-- A reset while a command is in flight aborts it: after the reset input has been asserted and after a
soft reset no command is in flight, DONE is 0 and a completion event does nothing; while the input is
asserted every read and every write, one of CTRL.SRST included, leaves the block alone, and once it is
deasserted the block is at its reset values; a deasserted input that is deasserted again changes nothing
(R450, R453; that the values are there from the assertion on is the model's choice, log 8). -/
def Obligations.ResetAbortsCommandInFlight : Prop :=
  ∀ (s : State) (w : Word),
    (let t := s.setResetInput true
     t = { State.reset with
           events := s.events, draws := s.draws, response := s.response, inReset := true } ∧
     react .complete t = .next t ∧
     (∀ off size, ∃ u, react (.read off size) t = .next u ∧
       u = { t with response := u.response, draws := u.draws }) ∧
     (∀ off size data, ∃ u, react (.write off size data) t = .next u ∧
       u = { t with response := u.response, draws := u.draws }) ∧
     ∃ u, react (.resetInput false) t = .next u ∧ u = { t with inReset := false }) ∧
    (s.inReset = false → react (.resetInput false) s = .next s) ∧
    (w.getLsbD 1 = true → s.inReset = false →
      let t := s.busWrite 0x004 32 w
      t.busy = false ∧ t.done = false ∧ t.inflight = none ∧ react .complete t = .next t)

/-! ## Moves and constants -/

/-- NOP writes nothing; MOV copies; LDC loads the ROM entry; LDI zero-extends; none writes a flag (R130
to R133, with the ROM of R51). -/
def Obligations.MovesAndConstants : Prop :=
  ∀ s : State,
    (∃ t, exec .nop s = .next t ∧ WritesR s t [] ∧ KeepsFlags s t ∧ encode .nop = 0x00000000#32) ∧
    (∀ rd rs1, encode (.mov rd rs1) &&& 0xFFFF00FF#32 = 0x00000001#32 ∧
      ∃ t, exec (.mov rd rs1) s = .next t ∧ WritesR s t [rd] ∧ KeepsFlags s t ∧
        t.data.r[rd] = s.readR rs1) ∧
    (∀ rd k, encode (.ldc rd k) &&& 0xF8FFF0FF#32 = 0x00000002#32 ∧
      ∃ t, exec (.ldc rd k) s = .next t ∧ WritesR s t [rd] ∧ KeepsFlags s t ∧
        t.data.r[rd].toNat =
          [Config.SM2_p, Config.SM2_a, Config.SM2_b, Config.SM2_n, Config.SM2_Gx, Config.SM2_Gy,
           Config.SM2_p - 2, Config.SM2_n - 2].getD k.val 0) ∧
    (∀ rd imm, encode (.ldi rd imm) &&& 0x00FFF0FF#32 = 0x00000003#32 ∧
      ∃ t, exec (.ldi rd imm) s = .next t ∧ WritesR s t [rd] ∧ KeepsFlags s t ∧
        t.data.r[rd].toNat = imm.toNat)

/-! ## 256-bit integers -/

/-- ADD: the sum mod 2^256, C the carry; SUB: the difference mod 2^256, C the borrow; CMP: C less-than, Z
equal, no register written; Z of the wrapped result, T kept (R150, R151, R154). -/
def Obligations.AddSubCmpGiveResultsAndFlags : Prop :=
  ∀ (rd rs1 rs2 : RReg) (s : State),
    encode (.add rd rs1 rs2) &&& 0xFFF000FF#32 = 0x00000010#32 ∧
    encode (.sub rd rs1 rs2) &&& 0xFFF000FF#32 = 0x00000011#32 ∧
    encode (.cmp rs1 rs2) &&& 0xFFF00FFF#32 = 0x00000014#32 ∧
    let sum := s.natR rs1 + s.natR rs2
    let diff : Int := (s.natR rs1 : Int) - (s.natR rs2 : Int)
    (∃ t, exec (.add rd rs1 rs2) s = .next t ∧ WritesR s t [rd] ∧
      t.data.r[rd].toNat = sum % 2 ^ 256 ∧ t.data.c = decide (2 ^ 256 ≤ sum) ∧
      t.data.z = decide (sum % 2 ^ 256 = 0) ∧ t.data.t = s.data.t) ∧
    (∃ t, exec (.sub rd rs1 rs2) s = .next t ∧ WritesR s t [rd] ∧
      (t.data.r[rd].toNat : Int) = diff % 2 ^ 256 ∧ t.data.c = decide (diff < 0) ∧
      t.data.z = decide (diff % 2 ^ 256 = 0) ∧ t.data.t = s.data.t) ∧
    ∃ t, exec (.cmp rs1 rs2) s = .next t ∧ WritesR s t [] ∧
      t.data.c = decide (s.natR rs1 < s.natR rs2) ∧
      t.data.z = decide (s.natR rs1 = s.natR rs2) ∧ t.data.t = s.data.t

/-- MUL and SQR: the exact 512-bit product in the pair, Z, C and T kept; for an even pair register (R152,
R153). -/
def Obligations.MulAndSqrGiveExactProduct : Prop :=
  ∀ (rdp : RPair) (rs1 rs2 : RReg) (s : State), pairEven rdp = true →
    encode (.mul rdp rs1 rs2) &&& 0xFFF001FF#32 = 0x00000012#32 ∧
    encode (.sqr rdp rs1) &&& 0xFFFF01FF#32 = 0x00000013#32 ∧
    (∃ t, exec (.mul rdp rs1 rs2) s = .next t ∧ WritesR s t [rdp, rdp + 1] ∧
      t.data.r[rdp + 1].toNat * 2 ^ 256 + t.data.r[rdp].toNat = s.natR rs1 * s.natR rs2 ∧
      t.data.z = decide (s.natR rs1 * s.natR rs2 = 0) ∧ t.data.c = s.data.c ∧
      t.data.t = s.data.t) ∧
    ∃ t, exec (.sqr rdp rs1) s = .next t ∧ WritesR s t [rdp, rdp + 1] ∧
      t.data.r[rdp + 1].toNat * 2 ^ 256 + t.data.r[rdp].toNat = s.natR rs1 * s.natR rs1 ∧
      t.data.z = decide (s.natR rs1 * s.natR rs1 = 0) ∧ t.data.c = s.data.c ∧ t.data.t = s.data.t

/-- A pair operand named by an odd register is an illegal command: every command with a pair ends with
ILLEGAL then (R33, R103, R110). The decoder yields no such command; the statement says what the
syntax terms outside the encoding do (log 12, the model's choice). -/
def Obligations.OddPairEndsIllegal : Prop :=
  ∀ (k : RPair) (a b : RReg) (p : PReg) (s : State) (i : Instr), pairEven k = false →
    (i = .mul k a b ∨ i = .sqr k a ∨ i = .mred a k b ∨ i = .fred a k ∨ i = .pst k p ∨
      i = .sm3cf k) →
    i.wf = false ∧ ∃ t, exec i s = .next t ∧ Fails .illegal s t

/-- BITLEN: the least L with v < 2^L, Z of the operand, C and T kept; GETBIT: T is the addressed bit, no
register written, C and Z kept (R155, R156, with bitlen of R13). -/
def Obligations.BitlenAndGetbitReadBits : Prop :=
  ∀ (rd rs1 : RReg) (i : Imm8) (s : State),
    encode (.bitlen rd rs1) &&& 0xFFFF00FF#32 = 0x00000015#32 ∧
    encode (.getbit rs1 i) &&& 0x00FF0FFF#32 = 0x00000016#32 ∧
    (∃ t, exec (.bitlen rd rs1) s = .next t ∧ WritesR s t [rd] ∧
      s.natR rs1 < 2 ^ t.data.r[rd].toNat ∧
      (∀ l, s.natR rs1 < 2 ^ l → t.data.r[rd].toNat ≤ l) ∧
      t.data.z = decide (s.natR rs1 = 0) ∧ t.data.c = s.data.c ∧ t.data.t = s.data.t) ∧
    ∃ t, exec (.getbit rs1 i) s = .next t ∧ WritesR s t [] ∧
      t.data.t = (s.natR rs1).testBit i.toNat ∧ t.data.c = s.data.c ∧ t.data.z = s.data.z

/-- SHL1 and SHR1: the shifted value, C the bit shifted out; AND: the bitwise AND, C kept; Z of the result,
T kept (R157 to R159). -/
def Obligations.ShiftsAndBitwiseAnd : Prop :=
  ∀ (rd rs1 rs2 : RReg) (s : State),
    encode (.shl1 rd rs1) &&& 0xFFFF00FF#32 = 0x00000017#32 ∧
    encode (.shr1 rd rs1) &&& 0xFFFF00FF#32 = 0x00000018#32 ∧
    encode (.and rd rs1 rs2) &&& 0xFFF000FF#32 = 0x00000019#32 ∧
    (∃ t, exec (.shl1 rd rs1) s = .next t ∧ WritesR s t [rd] ∧
      t.data.r[rd].toNat = s.natR rs1 * 2 % 2 ^ 256 ∧ t.data.c = (s.natR rs1).testBit 255 ∧
      t.data.z = decide (s.natR rs1 * 2 % 2 ^ 256 = 0) ∧ t.data.t = s.data.t) ∧
    (∃ t, exec (.shr1 rd rs1) s = .next t ∧ WritesR s t [rd] ∧
      t.data.r[rd].toNat = s.natR rs1 / 2 ∧ t.data.c = (s.natR rs1).testBit 0 ∧
      t.data.z = decide (s.natR rs1 / 2 = 0) ∧ t.data.t = s.data.t) ∧
    ∃ t, exec (.and rd rs1 rs2) s = .next t ∧ WritesR s t [rd] ∧
      t.data.r[rd].toNat = s.natR rs1 &&& s.natR rs2 ∧
      t.data.z = decide (s.natR rs1 &&& s.natR rs2 = 0) ∧ t.data.c = s.data.c ∧
      t.data.t = s.data.t

/-- ADD and SUB are the 4-limb carry and borrow chains, and MUL is the schoolbook sum of limb products
(R161, which the spec derives from R150 to R152). -/
def Obligations.LimbChainsGiveTheSameResults : Prop :=
  ∀ (rd rs1 rs2 : RReg) (rdp : RPair) (s : State), pairEven rdp = true →
    let a := fun j : Fin 4 => (limb (s.readR rs1) j).toNat
    let b := fun j : Fin 4 => (limb (s.readR rs2) j).toNat
    (∃ t, ∃ c : Fin 5 → Nat, exec (.add rd rs1 rs2) s = .next t ∧ c 0 = 0 ∧
      (∀ j : Fin 4, (limb t.data.r[rd] j).toNat = (a j + b j + c j.castSucc) % 2 ^ 64 ∧
        c j.succ = (a j + b j + c j.castSucc) / 2 ^ 64) ∧
      t.data.c = decide (c 4 = 1) ∧ c 4 ≤ 1) ∧
    (∃ t, ∃ c : Fin 5 → Nat, exec (.sub rd rs1 rs2) s = .next t ∧ c 0 = 0 ∧
      (∀ j : Fin 4,
        ((limb t.data.r[rd] j).toNat : Int) = ((a j : Int) - b j - c j.castSucc) % 2 ^ 64 ∧
        c j.succ = if (a j : Int) - b j - c j.castSucc < 0 then 1 else 0) ∧
      t.data.c = decide (c 4 = 1)) ∧
    ∃ t, exec (.mul rdp rs1 rs2) s = .next t ∧
      t.data.r[rdp + 1].toNat * 2 ^ 256 + t.data.r[rdp].toNat =
        ∑ i : Fin 4, ∑ j : Fin 4, a i * b j * 2 ^ (64 * (i.val + j.val))

/-! ## Modular arithmetic -/

/-- With modulus 0 every modular command ends with DIV_ZERO, before anything else is computed (R180). -/
def Obligations.ZeroModulusEndsDivZero : Prop :=
  ∀ (rd rs1 rs2 rs3 : RReg) (rs1p : RPair) (s : State) (i : Instr), s.natR rs3 = 0 →
    pairEven rs1p = true →
    (i = .madd rd rs1 rs2 rs3 ∨ i = .msub rd rs1 rs2 rs3 ∨ i = .mmul rd rs1 rs2 rs3 ∨
      i = .msqr rd rs1 rs3 ∨ i = .minv rd rs1 rs3 ∨ i = .mpow rd rs1 rs2 rs3 ∨
      i = .mred rd rs1p rs3) →
    ∃ t, exec i s = .next t ∧ Fails .divZero s t

/-- MADD, MSUB, MMUL, MSQR and MRED: DIV_ZERO when the modulus is 0; otherwise the exact residue of the
exact sum, difference, product, square or 512-bit pair, Z of it, C and T kept (R181 to R184, R187 to
R189). -/
def Obligations.ModularCommandsGiveResidues : Prop :=
  ∀ (rd rs1 rs2 rs3 : RReg) (rs1p : RPair) (s : State), pairEven rs1p = true →
    let m := s.natR rs3
    let a := s.natR rs1
    let b := s.natR rs2
    let gives := fun (i : Instr) (r : Int) =>
      (m = 0 → ∃ t, exec i s = .next t ∧ Fails .divZero s t) ∧
      (m ≠ 0 → ∃ t, exec i s = .next t ∧ WritesR s t [rd] ∧ (t.data.r[rd].toNat : Int) = r ∧
        t.data.r[rd].toNat < m ∧ t.data.z = decide (r = 0) ∧ t.data.c = s.data.c ∧
        t.data.t = s.data.t)
    gives (.madd rd rs1 rs2 rs3) ((a + b : Int) % m) ∧
    gives (.msub rd rs1 rs2 rs3) ((a - b : Int) % m) ∧
    gives (.mmul rd rs1 rs2 rs3) ((a * b : Int) % m) ∧
    gives (.msqr rd rs1 rs3) ((a * a : Int) % m) ∧
    gives (.mred rd rs1p rs3) ((s.natR (rs1p + 1) * 2 ^ 256 + s.natR rs1p : Int) % m) ∧
    encode (.madd rd rs1 rs2 rs3) &&& 0xFF0000FF#32 = 0x00000020#32 ∧
    encode (.msub rd rs1 rs2 rs3) &&& 0xFF0000FF#32 = 0x00000021#32 ∧
    encode (.mmul rd rs1 rs2 rs3) &&& 0xFF0000FF#32 = 0x00000022#32 ∧
    encode (.msqr rd rs1 rs3) &&& 0xFF0F00FF#32 = 0x00000023#32 ∧
    encode (.mred rd rs1p rs3) &&& 0xFF0F10FF#32 = 0x00000026#32

/-- MPOW: DIV_ZERO when the modulus is 0; otherwise the square-and-multiply loop of R186 over the L bits of
the exponent, L the bit length of the modulus, Z of the result, C and T kept (R186). -/
def Obligations.MpowRunsSquareAndMultiply : Prop :=
  ∀ (rd rs1 rs2 rs3 : RReg) (s : State),
    encode (.mpow rd rs1 rs2 rs3) &&& 0xFF0000FF#32 = 0x00000025#32 ∧
    let m := s.natR rs3
    let a := s.natR rs1
    let e := s.natR rs2
    (m = 0 → ∃ t, exec (.mpow rd rs1 rs2 rs3) s = .next t ∧ Fails .divZero s t) ∧
    (m ≠ 0 → ∃ t l, ∃ r : Nat → Nat, exec (.mpow rd rs1 rs2 rs3) s = .next t ∧
      WritesR s t [rd] ∧ m < 2 ^ l ∧ (∀ l', m < 2 ^ l' → l ≤ l') ∧ r l = 1 % m ∧
      (∀ i, i < l →
        r i = if e.testBit i then (r (i + 1) * r (i + 1) % m) * a % m else r (i + 1) * r (i + 1) % m) ∧
      t.data.r[rd].toNat = r 0 ∧ t.data.z = decide (r 0 = 0) ∧ t.data.c = s.data.c ∧
      t.data.t = s.data.t)

/-- MPOW with a modulus other than 0 gives a^(e mod 2^L) mod m, L the bit length of m: exponent bits at or
above L are ignored, and an exponent below 2^L is used whole (the closed form that R186 derives). -/
def Obligations.MpowGivesTruncatedPower : Prop :=
  ∀ (rd rs1 rs2 rs3 : RReg) (s : State), s.natR rs3 ≠ 0 →
    let m := s.natR rs3
    ∃ t l, exec (.mpow rd rs1 rs2 rs3) s = .next t ∧ m < 2 ^ l ∧ (∀ l', m < 2 ^ l' → l ≤ l') ∧
      t.data.r[rd].toNat = s.natR rs1 ^ (s.natR rs2 % 2 ^ l) % m ∧
      (s.natR rs2 < m → t.data.r[rd].toNat = s.natR rs1 ^ s.natR rs2 % m)

/-- MINV: DIV_ZERO when m = 0, then INV_ZERO when a ≡ 0 (mod m); otherwise a^(m−2) mod m for any m, prime or
not, with Z, C and T kept (R185; the power is the closed form that R186 derives for its core). -/
def Obligations.MinvGivesFermatPower : Prop :=
  ∀ (rd rs1 rs3 : RReg) (s : State),
    encode (.minv rd rs1 rs3) &&& 0xFF0F00FF#32 = 0x00000024#32 ∧
    let m := s.natR rs3
    let a := s.natR rs1
    (m = 0 → ∃ t, exec (.minv rd rs1 rs3) s = .next t ∧ Fails .divZero s t) ∧
    (m ≠ 0 → a % m = 0 → ∃ t, exec (.minv rd rs1 rs3) s = .next t ∧ Fails .invZero s t) ∧
    (m ≠ 0 → a % m ≠ 0 → ∃ t, exec (.minv rd rs1 rs3) s = .next t ∧ WritesR s t [rd] ∧
      t.data.r[rd].toNat = a ^ (m - 2) % m ∧ t.data.z = decide (a ^ (m - 2) % m = 0) ∧
      t.data.c = s.data.c ∧ t.data.t = s.data.t)

/-- For a prime modulus and a operand not 0 modulo it, MINV gives the inverse: r·a ≡ 1 (mod m) (R185, by
Fermat's little theorem). -/
def Obligations.MinvInvertsForPrimeModulus : Prop :=
  ∀ (rd rs1 rs3 : RReg) (s : State), (s.natR rs3).Prime → s.natR rs1 % s.natR rs3 ≠ 0 →
    ∃ t, exec (.minv rd rs1 rs3) s = .next t ∧ WritesR s t [rd] ∧
      t.data.r[rd].toNat * s.natR rs1 % s.natR rs3 = 1 ∧ t.data.r[rd].toNat < s.natR rs3

/-- MMUL is MUL into a pair followed by MRED of the pair: the same residue and the same Z, whenever the
pair does not hold the modulus (an inference of R183). -/
def Obligations.MmulIsMulThenMred : Prop :=
  ∀ (rd rs1 rs2 rs3 : RReg) (k : RPair) (s : State), s.src = s.data → s.natR rs3 ≠ 0 →
    pairEven k = true → rs3 ≠ k → rs3 ≠ k + 1 →
    ∃ t t₁ t₂, exec (.mmul rd rs1 rs2 rs3) s = .next t ∧ exec (.mul k rs1 rs2) s = .next t₁ ∧
      exec (.mred rd k rs3) t₁ = .next t₂ ∧ t₂.data.r[rd] = t.data.r[rd] ∧ t₂.data.z = t.data.z

/-! ## Arithmetic mod p -/

/-- FADD, FSUB, FMUL, FSQR, FNEG, FNORM and FRED: the residue mod p of the exact result, Z of it, C and T
kept (R201 to R206, R208). -/
def Obligations.FieldCommandsGiveResidues : Prop :=
  ∀ (rd rs1 rs2 : RReg) (rs1p : RPair) (s : State), pairEven rs1p = true →
    let p : Int := Config.SM2_p
    let a := s.natR rs1
    let b := s.natR rs2
    let gives := fun (i : Instr) (r : Int) =>
      ∃ t, exec i s = .next t ∧ WritesR s t [rd] ∧ (t.data.r[rd].toNat : Int) = r ∧
        t.data.z = decide (r = 0) ∧ t.data.c = s.data.c ∧ t.data.t = s.data.t
    gives (.fred rd rs1p) ((s.natR (rs1p + 1) * 2 ^ 256 + s.natR rs1p : Int) % p) ∧
    gives (.fadd rd rs1 rs2) ((a + b : Int) % p) ∧
    gives (.fsub rd rs1 rs2) ((a - b : Int) % p) ∧
    gives (.fmul rd rs1 rs2) ((a * b : Int) % p) ∧
    gives (.fsqr rd rs1) ((a * a : Int) % p) ∧
    gives (.fneg rd rs1) ((0 - a : Int) % p) ∧
    gives (.fnorm rd rs1) ((a : Int) % p) ∧
    encode (.fred rd rs1p) &&& 0xFFFF10FF#32 = 0x00000030#32 ∧
    encode (.fadd rd rs1 rs2) &&& 0xFFF000FF#32 = 0x00000031#32 ∧
    encode (.fsub rd rs1 rs2) &&& 0xFFF000FF#32 = 0x00000032#32 ∧
    encode (.fmul rd rs1 rs2) &&& 0xFFF000FF#32 = 0x00000033#32 ∧
    encode (.fsqr rd rs1) &&& 0xFFFF00FF#32 = 0x00000034#32 ∧
    encode (.fneg rd rs1) &&& 0xFFFF00FF#32 = 0x00000035#32 ∧
    encode (.fnorm rd rs1) &&& 0xFFFF00FF#32 = 0x00000037#32

/-- FINV: INV_ZERO when the operand is 0 mod p; otherwise a^(p−2) mod p and Z = 0, C and T kept (R207). -/
def Obligations.FinvGivesFermatPower : Prop :=
  ∀ (rd rs1 : RReg) (s : State),
    encode (.finv rd rs1) &&& 0xFFFF00FF#32 = 0x00000036#32 ∧
    let a := s.natR rs1 % Config.SM2_p
    (a = 0 → ∃ t, exec (.finv rd rs1) s = .next t ∧ Fails .invZero s t) ∧
    (a ≠ 0 → ∃ t, exec (.finv rd rs1) s = .next t ∧ WritesR s t [rd] ∧
      t.data.r[rd].toNat = a ^ (Config.SM2_p - 2) % Config.SM2_p ∧ t.data.z = false ∧
      t.data.c = s.data.c ∧ t.data.t = s.data.t)

/-- With p in the modulus register the modular commands do what the field commands do: the whole next
state is the same (R201 and R207 say so of FRED and FINV). MINV and FINV agree wherever a^(p−2) mod p
is not 0, which is what FINV's Z takes for granted. -/
def Obligations.FieldCommandsAreModularByP : Prop :=
  ∀ (rd rs1 rs2 rs3 : RReg) (rs1p : RPair) (s : State), s.natR rs3 = Config.SM2_p →
    exec (.fadd rd rs1 rs2) s = exec (.madd rd rs1 rs2 rs3) s ∧
    exec (.fsub rd rs1 rs2) s = exec (.msub rd rs1 rs2 rs3) s ∧
    exec (.fmul rd rs1 rs2) s = exec (.mmul rd rs1 rs2 rs3) s ∧
    exec (.fsqr rd rs1) s = exec (.msqr rd rs1 rs3) s ∧
    exec (.fred rd rs1p) s = exec (.mred rd rs1p rs3) s ∧
    (s.natR rs1 ^ (Config.SM2_p - 2) % Config.SM2_p ≠ 0 →
      exec (.finv rd rs1) s = exec (.minv rd rs1 rs3) s)

/-- The fast reducer of R211 to R214 gives v mod p for every 512-bit v: the first carry is at most 13,
two overflow rounds leave no carry, and one subtraction of p is enough (R201, R212 to R214). -/
def Obligations.FastReducerGivesResidue : Prop :=
  ∀ v : Nat, v < 2 ^ 512 →
    fastReduce v = v % Config.SM2_p ∧
    0 ≤ (propagate (columnSums v) 0).2 ∧ (propagate (columnSums v) 0).2 ≤ 13 ∧
    (foldOverflow 2 (propagate (columnSums v) 0)).2 = 0

/-! ## Points -/

/-- PLD, PINF and PLDG write one affine register and no flag: the reduced, unchecked pair; infinity with
x = y = 0; the generator. PST stores the reduced coordinates into the pair with T = 0, or zeros with
T = 1 for infinity; C and Z kept (R236 to R239). -/
def Obligations.PointLoadsAndStores : Prop :=
  ∀ (pd ps1 : PReg) (rs1 rs2 : RReg) (rdp : RPair) (s : State),
    encode (.pld pd rs1 rs2) &&& 0xFFF00CFF#32 = 0x00000040#32 ∧
    encode (.pinf pd) &&& 0xFFFFFCFF#32 = 0x00000042#32 ∧
    encode (.pldg pd) &&& 0xFFFFFCFF#32 = 0x00000043#32 ∧
    (∃ t, exec (.pld pd rs1 rs2) s = .next t ∧ WritesPA s t pd ∧ KeepsFlags s t ∧
      t.data.pa[pd].x.toNat = s.natR rs1 % Config.SM2_p ∧
      t.data.pa[pd].y.toNat = s.natR rs2 % Config.SM2_p ∧ t.data.pa[pd].inf = false) ∧
    (∃ t, exec (.pinf pd) s = .next t ∧ WritesPA s t pd ∧ KeepsFlags s t ∧
      t.data.pa[pd] = ⟨0, 0, true⟩) ∧
    (∃ t, exec (.pldg pd) s = .next t ∧ WritesPA s t pd ∧ KeepsFlags s t ∧
      t.data.pa[pd].x.toNat = Config.SM2_Gx ∧ t.data.pa[pd].y.toNat = Config.SM2_Gy ∧
      t.data.pa[pd].inf = false) ∧
    (pairEven rdp = true → encode (.pst rdp ps1) &&& 0xFFFFC1FF#32 = 0x00000041#32 ∧
      let p := s.src.pa[ps1]
      ∃ t, exec (.pst rdp ps1) s = .next t ∧ WritesR s t [rdp, rdp + 1] ∧
        t.data.r[rdp].toNat = (if p.inf then 0 else p.x.toNat % Config.SM2_p) ∧
        t.data.r[rdp + 1].toNat = (if p.inf then 0 else p.y.toNat % Config.SM2_p) ∧
        t.data.t = p.inf ∧ t.data.c = s.data.c ∧ t.data.z = s.data.z)

/-- PCHK and PEQ write only T: the on-curve test, infinity being on the curve; equality as both infinity
or equal coordinates mod p (R230, R240, R245). -/
def Obligations.PointTestsGiveT : Prop :=
  ∀ (ps1 ps2 : PReg) (s : State),
    encode (.pchk ps1) &&& 0xFFFFCFFF#32 = 0x00000044#32 ∧
    encode (.peq ps1 ps2) &&& 0xFFFCCFFF#32 = 0x00000049#32 ∧
    let p := s.src.pa[ps1]
    let q := s.src.pa[ps2]
    let m := Config.SM2_p
    (∃ t, exec (.pchk ps1) s = .next t ∧ WritesR s t [] ∧
      t.data.t = (p.inf || decide (p.y.toNat ^ 2 % m =
        ((p.x.toNat ^ 2 + Config.SM2_a) * p.x.toNat + Config.SM2_b) % m)) ∧
      t.data.c = s.data.c ∧ t.data.z = s.data.z) ∧
    ∃ t, exec (.peq ps1 ps2) s = .next t ∧ WritesR s t [] ∧
      t.data.t = ((p.inf && q.inf) || (!p.inf && !q.inf &&
        decide (p.x.toNat % m = q.x.toNat % m ∧ p.y.toNat % m = q.y.toNat % m))) ∧
      t.data.c = s.data.c ∧ t.data.z = s.data.z

/-- PNEG: infinity stays infinity with T = 1; otherwise x kept and y negated mod p with T = 0 (R241). -/
def Obligations.PnegFlipsY : Prop :=
  ∀ (pd ps1 : PReg) (s : State),
    encode (.pneg pd ps1) &&& 0xFFFFCCFF#32 = 0x00000045#32 ∧
    let p := s.src.pa[ps1]
    ∃ t, exec (.pneg pd ps1) s = .next t ∧ WritesPA s t pd ∧ t.data.t = p.inf ∧
      t.data.c = s.data.c ∧ t.data.z = s.data.z ∧
      (p.inf = true → t.data.pa[pd] = ⟨0, 0, true⟩) ∧
      (p.inf = false → t.data.pa[pd].inf = false ∧
        t.data.pa[pd].x.toNat = p.x.toNat % Config.SM2_p ∧
        (t.data.pa[pd].y.toNat : Int) = (0 - (p.y.toNat : Int)) % Config.SM2_p)

/-- JFROM gives (x, y, 1) with T = 0, or (0, 0, 0) with T = 1 for infinity; JTOA gives infinity with T = 1
when Z ≡ 0 mod p, and otherwise X·zi², Y·zi³ with zi = Z^(p−2) mod p and T = 0 (R246, R247, R234). -/
def Obligations.ConversionsBetweenForms : Prop :=
  ∀ (pd ps1 : PReg) (jd js1 : JReg) (s : State),
    encode (.jfrom jd ps1) &&& 0xFFFFCCFF#32 = 0x0000004A#32 ∧
    encode (.jtoa pd js1) &&& 0xFFFFCCFF#32 = 0x0000004B#32 ∧
    let p := s.src.pa[ps1]
    let j := s.src.pj[js1]
    let m := Config.SM2_p
    (∃ t, exec (.jfrom jd ps1) s = .next t ∧ WritesPJ s t jd ∧ t.data.t = p.inf ∧
      t.data.c = s.data.c ∧ t.data.z = s.data.z ∧
      (p.inf = true → t.data.pj[jd] = ⟨0, 0, 0⟩) ∧
      (p.inf = false → t.data.pj[jd].X.toNat = p.x.toNat % m ∧
        t.data.pj[jd].Y.toNat = p.y.toNat % m ∧ t.data.pj[jd].Z = 1)) ∧
    ∃ t, exec (.jtoa pd js1) s = .next t ∧ WritesPA s t pd ∧ t.data.c = s.data.c ∧
      t.data.z = s.data.z ∧
      (j.Z.toNat % m = 0 → t.data.pa[pd] = ⟨0, 0, true⟩ ∧ t.data.t = true) ∧
      (j.Z.toNat % m ≠ 0 → t.data.pa[pd].inf = false ∧ t.data.t = false ∧
        t.data.pa[pd].x.toNat = j.X.toNat * (j.Z.toNat ^ (m - 2)) ^ 2 % m ∧
        t.data.pa[pd].y.toNat = j.Y.toNat * (j.Z.toNat ^ (m - 2)) ^ 3 % m)

/-- JDBL: the a = −3 doubling in the field, Z1 = 0 and a result with Z3 = 0 giving the canonical infinity
(0, 0, 0) with T = 1, every coordinate reduced (R232, R248). -/
def Obligations.JdblGivesDoublingFormula : Prop :=
  ∀ (jd js1 : JReg) (s : State),
    encode (.jdbl jd js1) &&& 0xFFFFCCFF#32 = 0x0000004C#32 ∧
    let X : ZMod Config.SM2_p := s.src.pj[js1].X.toNat
    let Y : ZMod Config.SM2_p := s.src.pj[js1].Y.toNat
    let Z : ZMod Config.SM2_p := s.src.pj[js1].Z.toNat
    let M := 3 * (X - Z ^ 2) * (X + Z ^ 2)
    let S := 4 * X * Y ^ 2
    let X3 := M ^ 2 - 2 * S
    ∃ t, exec (.jdbl jd js1) s = .next t ∧ WritesPJ s t jd ∧ t.data.c = s.data.c ∧
      t.data.z = s.data.z ∧
      (Z = 0 ∨ 2 * Y * Z = 0 → t.data.pj[jd] = ⟨0, 0, 0⟩ ∧ t.data.t = true) ∧
      (Z ≠ 0 → 2 * Y * Z ≠ 0 → t.data.t = false ∧
        (t.data.pj[jd].X.toNat : ZMod Config.SM2_p) = X3 ∧
        (t.data.pj[jd].Y.toNat : ZMod Config.SM2_p) = M * (S - X3) - 8 * Y ^ 4 ∧
        (t.data.pj[jd].Z.toNat : ZMod Config.SM2_p) = 2 * Y * Z ∧
        t.data.pj[jd].X.toNat < Config.SM2_p ∧ t.data.pj[jd].Y.toNat < Config.SM2_p ∧
        t.data.pj[jd].Z.toNat < Config.SM2_p)

/-- JADDM: J1 for P2 = O, (x2, y2, 1) for J1 = O, the doubling of J1 for equal points, infinity for
opposite ones, and otherwise the mixed addition in the field; infinity is always stored as (0, 0, 0)
with T = 1 (R233, R249). -/
def Obligations.JaddmGivesMixedAddition : Prop :=
  ∀ (jd js1 : JReg) (ps2 : PReg) (s : State),
    encode (.jaddm jd js1 ps2) &&& 0xFFFCCCFF#32 = 0x0000004D#32 ∧
    let p := s.src.pa[ps2]
    let X : ZMod Config.SM2_p := s.src.pj[js1].X.toNat
    let Y : ZMod Config.SM2_p := s.src.pj[js1].Y.toNat
    let Z : ZMod Config.SM2_p := s.src.pj[js1].Z.toNat
    let x2 : ZMod Config.SM2_p := p.x.toNat
    let y2 : ZMod Config.SM2_p := p.y.toNat
    let H := x2 * Z ^ 2 - X
    let r := y2 * Z ^ 3 - Y
    let V := X * H ^ 2
    let X3 := r ^ 2 - H ^ 3 - 2 * V
    ∃ t u, exec (.jaddm jd js1 ps2) s = .next t ∧ exec (.jdbl jd js1) s = .next u ∧
      WritesPJ s t jd ∧ t.data.c = s.data.c ∧ t.data.z = s.data.z ∧
      let is := fun (a b c : ZMod Config.SM2_p) =>
        if c = 0 then t.data.pj[jd] = ⟨0, 0, 0⟩ ∧ t.data.t = true
        else t.data.t = false ∧ (t.data.pj[jd].X.toNat : ZMod Config.SM2_p) = a ∧
          (t.data.pj[jd].Y.toNat : ZMod Config.SM2_p) = b ∧
          (t.data.pj[jd].Z.toNat : ZMod Config.SM2_p) = c ∧
          t.data.pj[jd].X.toNat < Config.SM2_p ∧ t.data.pj[jd].Y.toNat < Config.SM2_p ∧
          t.data.pj[jd].Z.toNat < Config.SM2_p
      (p.inf = true → is X Y Z) ∧
      (p.inf = false → Z = 0 → is x2 y2 1) ∧
      (p.inf = false → Z ≠ 0 → H = 0 → r = 0 →
        t.data.pj[jd] = u.data.pj[jd] ∧ t.data.t = u.data.t) ∧
      (p.inf = false → Z ≠ 0 → H = 0 → r ≠ 0 → is 0 0 0) ∧
      (p.inf = false → Z ≠ 0 → H ≠ 0 → is X3 (r * (V - X3) - Y * H ^ 3) (Z * H))

/-- PADD and PDBL do what JFROM, the Jacobian step and JTOA do in turn through any Jacobian register, with
C and Z kept and T telling whether the result is infinity; adding infinity on either side gives the
other point back (R242, R243). -/
def Obligations.AffineStepsAreJacobianSteps : Prop :=
  ∀ (pd ps1 ps2 : PReg) (j : JReg) (s : State), s.src = s.data →
    encode (.padd pd ps1 ps2) &&& 0xFFFCCCFF#32 = 0x00000046#32 ∧
    encode (.pdbl pd ps1) &&& 0xFFFFCCFF#32 = 0x00000047#32 ∧
    (∃ t t₁ t₂ t₃, exec (.padd pd ps1 ps2) s = .next t ∧ exec (.jfrom j ps1) s = .next t₁ ∧
      exec (.jaddm j j ps2) t₁ = .next t₂ ∧ exec (.jtoa pd j) t₂ = .next t₃ ∧
      WritesPA s t pd ∧ t.data.c = s.data.c ∧ t.data.z = s.data.z ∧
      t.data.pa = t₃.data.pa ∧ t.data.t = t₃.data.t ∧ t.data.t = t.data.pa[pd].inf ∧
      (s.data.pa[ps2].inf = true → t.data.pa[pd].point = s.data.pa[ps1].point) ∧
      (s.data.pa[ps1].inf = true → t.data.pa[pd].point = s.data.pa[ps2].point)) ∧
    ∃ t t₁ t₂ t₃, exec (.pdbl pd ps1) s = .next t ∧ exec (.jfrom j ps1) s = .next t₁ ∧
      exec (.jdbl j j) t₁ = .next t₂ ∧ exec (.jtoa pd j) t₂ = .next t₃ ∧
      WritesPA s t pd ∧ t.data.c = s.data.c ∧ t.data.z = s.data.z ∧
      t.data.pa = t₃.data.pa ∧ t.data.t = t₃.data.t ∧ t.data.t = t.data.pa[pd].inf ∧
      (s.data.pa[ps1].inf = true → t.data.pa[pd] = ⟨0, 0, true⟩)

/-- PMUL: most-significant-bit-first double-and-add in Jacobian form from the first one bit of the scalar,
converted once at the end; k = 0 or P = O gives infinity, and k = 1 gives P back; T tells whether the
result is infinity, C and Z are kept (R235, R244). -/
def Obligations.PmulIsDoubleAndAdd : Prop :=
  ∀ (pd ps1 : PReg) (rs2 : RReg) (s : State),
    encode (.pmul pd ps1 rs2) &&& 0xFFF0CCFF#32 = 0x00000048#32 ∧
    let k := s.natR rs2
    let p := s.src.pa[ps1]
    ∃ t, ∃ acc : Nat → Jac, ∃ l, exec (.pmul pd ps1 rs2) s = .next t ∧ WritesPA s t pd ∧
      t.data.c = s.data.c ∧ t.data.z = s.data.z ∧ t.data.t = t.data.pa[pd].inf ∧
      (k = 0 ∨ p.inf = true → t.data.pa[pd] = ⟨0, 0, true⟩) ∧
      (k = 1 → t.data.pa[pd].point = p.point) ∧
      k < 2 ^ l ∧ (∀ l', k < 2 ^ l' → l ≤ l') ∧ acc l = ⟨0, 0, 0⟩ ∧
      (∀ i, i < l → acc i = if k.testBit i then jaddmCore (jdblCore (acc (i + 1))) p.point
        else jdblCore (acc (i + 1))) ∧
      (k ≠ 0 → p.inf = false → t.data.pa[pd] = (jtoaCore (acc 0)).toReg)

/-- The Jacobian doubler and the mixed adder keep points on the curve, and so does every accumulator of
scalar multiplication: a Jacobian triple is on the curve when Z = 0 or Y² = X³ + a·X·Z⁴ + b·Z⁶ in the
field (R230, R232, R233, R235; the part of R250 that needs no inverse). -/
def Obligations.JacobianStepsStayOnCurve : Prop :=
  let on := fun (x y z : Nat) =>
    (z : ZMod Config.SM2_p) = 0 ∨
      (y : ZMod Config.SM2_p) ^ 2 =
        (x : ZMod Config.SM2_p) ^ 3 + (Config.SM2_a : ZMod Config.SM2_p) * x * z ^ 4 +
          (Config.SM2_b : ZMod Config.SM2_p) * z ^ 6
  let onReg := fun j : JacReg => on j.X.toNat j.Y.toNat j.Z.toNat
  (∀ (jd js1 : JReg) (s : State), onReg s.src.pj[js1] →
    ∃ t, exec (.jdbl jd js1) s = .next t ∧ onReg t.data.pj[jd]) ∧
  (∀ (jd js1 : JReg) (ps2 : PReg) (s : State), onReg s.src.pj[js1] →
    (s.src.pa[ps2].point).onCurve = true →
    ∃ t, exec (.jaddm jd js1 ps2) s = .next t ∧ onReg t.data.pj[jd]) ∧
  ∀ (p : Point) (k n : Nat), p.onCurve = true →
    let acc := pmulLoop p k n Jac.infinity
    on acc.X acc.Y acc.Z

/-- The generator has order n: PMUL of G by n is infinity, by n − 1 it is −G, and G is on the curve
(R251, which the spec derives by evaluation). -/
def Obligations.GeneratorHasOrderN : Prop :=
  ∀ (pd ps1 : PReg) (rs2 : RReg) (s : State),
    s.readA ps1 = .affine Config.SM2_Gx Config.SM2_Gy →
    (∃ t, exec (.pchk ps1) s = .next t ∧ t.data.t = true) ∧
    (s.natR rs2 = Config.SM2_n → ∃ t, exec (.pmul pd ps1 rs2) s = .next t ∧
      t.data.pa[pd] = ⟨0, 0, true⟩ ∧ t.data.t = true) ∧
    (s.natR rs2 = Config.SM2_n - 1 → ∃ t u, exec (.pmul pd ps1 rs2) s = .next t ∧
      exec (.pneg pd ps1) s = .next u ∧ t.data.pa[pd] = u.data.pa[pd] ∧ t.data.t = false)

/-! ## SM3 -/

/-- SM3INIT sets V to the IV, SM3WR to the register, SM3RD copies V out; no flag is written (R285, R287,
R288). -/
def Obligations.ChainingValueMoves : Prop :=
  ∀ (rd rs1 : RReg) (s : State),
    encode .sm3init = 0x00000050#32 ∧
    encode (.sm3rd rd) &&& 0xFFFFF0FF#32 = 0x00000052#32 ∧
    encode (.sm3wr rs1) &&& 0xFFFF0FFF#32 = 0x00000053#32 ∧
    (∃ t, exec .sm3init s = .next t ∧ WritesV s t ∧
      t.data.v = 0x7380166F4914B2B9172442D7DA8A0600A96F30BC163138AAE38DEE4DB0FB0E4E#256) ∧
    (∃ t, exec (.sm3rd rd) s = .next t ∧ WritesR s t [rd] ∧ KeepsFlags s t ∧
      t.data.r[rd] = s.src.v) ∧
    ∃ t, exec (.sm3wr rs1) s = .next t ∧ WritesV s t ∧ t.data.v = s.readR rs1

/-- SM3CF: the 68 message words are the 16 of the block and those of the recurrence, the 64 rounds follow
the compression function's equations, and the final registers are XORed into V (R281 to R284, R286). -/
def Obligations.Sm3cfCompressesBlock : Prop :=
  ∀ (k : RPair) (s : State), pairEven k = true →
    encode (.sm3cf k) &&& 0xFFFF1FFF#32 = 0x00000051#32 ∧
    ∃ t, ∃ W : Nat → Word, ∃ G : Nat → Sm3Regs, exec (.sm3cf k) s = .next t ∧ WritesV s t ∧
      (∀ j, j < 8 → W j = (s.readR k).extractLsb' (224 - 32 * j) 32 ∧
        W (8 + j) = (s.readR (k + 1)).extractLsb' (224 - 32 * j) 32) ∧
      (∀ j, 16 ≤ j → j ≤ 67 →
        let x := W (j - 16) ^^^ W (j - 9) ^^^ (W (j - 3)).rotateLeft 15
        W j = (x ^^^ x.rotateLeft 15 ^^^ x.rotateLeft 23) ^^^ (W (j - 13)).rotateLeft 7 ^^^
          W (j - 6)) ∧
      G 0 = ⟨s.src.v.extractLsb' 224 32, s.src.v.extractLsb' 192 32, s.src.v.extractLsb' 160 32,
        s.src.v.extractLsb' 128 32, s.src.v.extractLsb' 96 32, s.src.v.extractLsb' 64 32,
        s.src.v.extractLsb' 32 32, s.src.v.extractLsb' 0 32⟩ ∧
      (∀ j, j < 64 →
        let T : Word := if j < 16 then 0x79CC4519 else 0x7A879D8A
        let FF := fun x y z : Word =>
          if j < 16 then x ^^^ y ^^^ z else (x &&& y) ||| (x &&& z) ||| (y &&& z)
        let GG := fun x y z : Word =>
          if j < 16 then x ^^^ y ^^^ z else (x &&& y) ||| (~~~x &&& z)
        let g := G j
        let SS1 := (g.A.rotateLeft 12 + g.E + T.rotateLeft (j % 32)).rotateLeft 7
        let SS2 := SS1 ^^^ g.A.rotateLeft 12
        let TT1 := FF g.A g.B g.C + g.D + SS2 + (W j ^^^ W (j + 4))
        let TT2 := GG g.E g.F g.G + g.H + SS1 + W j
        G (j + 1) = ⟨TT1, g.A, g.B.rotateLeft 9, g.C,
          TT2 ^^^ TT2.rotateLeft 9 ^^^ TT2.rotateLeft 17, g.E, g.F.rotateLeft 19, g.G⟩) ∧
      ∀ j, j < 8 → t.data.v.extractLsb' (224 - 32 * j) 32 =
        (s.src.v.extractLsb' (224 - 32 * j) 32) ^^^
          [(G 64).A, (G 64).B, (G 64).C, (G 64).D, (G 64).E, (G 64).F, (G 64).G, (G 64).H].getD j 0

/-! ## SM4 -/

/-- SM4KEY: the 32 round keys follow the key expansion's recurrence from MK ⊕ FK with the constants CK,
KEYV becomes 1 and no flag is written (R304 to R306, R310, R320). -/
def Obligations.Sm4keyExpandsKey : Prop :=
  ∀ (rs1 : RReg) (s : State),
    encode (.sm4key rs1) &&& 0xFFFF0FFF#32 = 0x00000060#32 ∧
    ∃ t, ∃ K : Nat → Word, exec (.sm4key rs1) s = .next t ∧ WritesKeys s t ∧
      t.data.keyv = true ∧
      K 0 = (s.readR rs1).extractLsb' 96 32 ^^^ 0xA3B1BAC6 ∧
      K 1 = (s.readR rs1).extractLsb' 64 32 ^^^ 0x56AA3350 ∧
      K 2 = (s.readR rs1).extractLsb' 32 32 ^^^ 0x677D9197 ∧
      K 3 = (s.readR rs1).extractLsb' 0 32 ^^^ 0xB27022DC ∧
      ∀ i : Fin 32,
        let CK : Word := BitVec.ofNat 32
          (((4 * i.val) * 7 % 256) * 2 ^ 24 + ((4 * i.val + 1) * 7 % 256) * 2 ^ 16 +
            ((4 * i.val + 2) * 7 % 256) * 2 ^ 8 + (4 * i.val + 3) * 7 % 256)
        let y := tau (K (i.val + 1) ^^^ K (i.val + 2) ^^^ K (i.val + 3) ^^^ CK)
        K (i.val + 4) = K i.val ^^^ (y ^^^ y.rotateLeft 13 ^^^ y.rotateLeft 23) ∧
        t.data.rk[i] = K (i.val + 4)

/-- SM4ENC and SM4DEC: NO_KEY while KEYV = 0; otherwise the 32 Feistel rounds with the round keys in order
or in reverse, the reversed last four words in the low 128 bits, the high bits 0, no flag written
(R301, R307, R308, R321, R322). -/
def Obligations.BlockCommandsRunTheRounds : Prop :=
  ∀ (rd rs1 : RReg) (s : State) (i : Instr) (key : Fin 32 → Word),
    ((i = .sm4enc rd rs1 ∧ ∀ n, key n = s.src.rk[n]) ∨
      (i = .sm4dec rd rs1 ∧ ∀ n : Fin 32, key n = s.src.rk[31 - n.val])) →
    encode (.sm4enc rd rs1) &&& 0xFFFF00FF#32 = 0x00000061#32 ∧
    encode (.sm4dec rd rs1) &&& 0xFFFF00FF#32 = 0x00000062#32 ∧
    (s.src.keyv = false → ∃ t, exec i s = .next t ∧ Fails .noKey s t) ∧
    (s.src.keyv = true → ∃ t, ∃ X : Nat → Word, exec i s = .next t ∧ WritesR s t [rd] ∧
      KeepsFlags s t ∧
      (∀ n, n < 4 → X n = (s.readR rs1).extractLsb' (96 - 32 * n) 32) ∧
      (∀ n : Fin 32,
        let y := tau (X (n.val + 1) ^^^ X (n.val + 2) ^^^ X (n.val + 3) ^^^ key n)
        X (n.val + 4) = X n.val ^^^ (y ^^^ y.rotateLeft 2 ^^^ y.rotateLeft 10 ^^^ y.rotateLeft 18 ^^^
          y.rotateLeft 24)) ∧
      t.data.r[rd] = (0 : BitVec 128) ++ (X 35 ++ X 34 ++ X 33 ++ X 32))

/-- Decryption inverts encryption, for every block and whatever the round keys: SM4ENC then SM4DEC gives
the low 128 bits back, zero-extended, and so does SM4DEC then SM4ENC (R308). -/
def Obligations.DecryptionInvertsEncryption : Prop :=
  ∀ (a b c : RReg) (s : State), s.src = s.data → s.data.keyv = true →
    (∃ t u, exec (.sm4enc b a) s = .next t ∧ exec (.sm4dec c b) t = .next u ∧
      u.data.r[c].toNat = s.data.r[a].toNat % 2 ^ 128) ∧
    ∃ t u, exec (.sm4dec b a) s = .next t ∧ exec (.sm4enc c b) t = .next u ∧
      u.data.r[c].toNat = s.data.r[a].toNat % 2 ^ 128

/-- The word commands act on the low word and zero-extend, write no flag and need no key: SM4SB is the
S-box on each byte, SM4L and SM4LK are L and L′, SM4T and SM4TK are those after the S-box (R302, R303,
R323 to R327). -/
def Obligations.WordCommandsAreTransforms : Prop :=
  ∀ (rd rs1 : RReg) (s : State),
    let x := (s.readR rs1).extractLsb' 0 32
    let y := sbox (x.extractLsb' 24 8) ++ sbox (x.extractLsb' 16 8) ++ sbox (x.extractLsb' 8 8) ++
      sbox (x.extractLsb' 0 8)
    let gives := fun (i : Instr) (v : Word) =>
      ∃ t, exec i s = .next t ∧ WritesR s t [rd] ∧ KeepsFlags s t ∧ t.data.r[rd].toNat = v.toNat
    let l := fun b : Word =>
      b ^^^ b.rotateLeft 2 ^^^ b.rotateLeft 10 ^^^ b.rotateLeft 18 ^^^ b.rotateLeft 24
    let lk := fun b : Word => b ^^^ b.rotateLeft 13 ^^^ b.rotateLeft 23
    gives (.sm4t rd rs1) (l y) ∧ gives (.sm4tk rd rs1) (lk y) ∧ gives (.sm4sb rd rs1) y ∧
    gives (.sm4l rd rs1) (l x) ∧ gives (.sm4lk rd rs1) (lk x) ∧
    encode (.sm4t rd rs1) &&& 0xFFFF00FF#32 = 0x00000063#32 ∧
    encode (.sm4tk rd rs1) &&& 0xFFFF00FF#32 = 0x00000064#32 ∧
    encode (.sm4sb rd rs1) &&& 0xFFFF00FF#32 = 0x00000065#32 ∧
    encode (.sm4l rd rs1) &&& 0xFFFF00FF#32 = 0x00000066#32 ∧
    encode (.sm4lk rd rs1) &&& 0xFFFF00FF#32 = 0x00000067#32

/-- The S-box has at row hi, column lo the value that R300 prints there, and SM4SB applies it; it is a
permutation with the three values R300 names, and SM4L and SM4LK are the GF(2) matrix multiplies of
R311, hence linear (the permutation and the matrices are inferences of the spec). -/
def Obligations.SboxPermutesAndDiffusionIsMatrix : Prop :=
  (let table : List (List Byte) :=
      [[0xD6, 0x90, 0xE9, 0xFE, 0xCC, 0xE1, 0x3D, 0xB7, 0x16, 0xB6, 0x14, 0xC2, 0x28, 0xFB, 0x2C, 0x05]] ++
      [[0x2B, 0x67, 0x9A, 0x76, 0x2A, 0xBE, 0x04, 0xC3, 0xAA, 0x44, 0x13, 0x26, 0x49, 0x86, 0x06, 0x99]] ++
      [[0x9C, 0x42, 0x50, 0xF4, 0x91, 0xEF, 0x98, 0x7A, 0x33, 0x54, 0x0B, 0x43, 0xED, 0xCF, 0xAC, 0x62]] ++
      [[0xE4, 0xB3, 0x1C, 0xA9, 0xC9, 0x08, 0xE8, 0x95, 0x80, 0xDF, 0x94, 0xFA, 0x75, 0x8F, 0x3F, 0xA6]] ++
      [[0x47, 0x07, 0xA7, 0xFC, 0xF3, 0x73, 0x17, 0xBA, 0x83, 0x59, 0x3C, 0x19, 0xE6, 0x85, 0x4F, 0xA8]] ++
      [[0x68, 0x6B, 0x81, 0xB2, 0x71, 0x64, 0xDA, 0x8B, 0xF8, 0xEB, 0x0F, 0x4B, 0x70, 0x56, 0x9D, 0x35]] ++
      [[0x1E, 0x24, 0x0E, 0x5E, 0x63, 0x58, 0xD1, 0xA2, 0x25, 0x22, 0x7C, 0x3B, 0x01, 0x21, 0x78, 0x87]] ++
      [[0xD4, 0x00, 0x46, 0x57, 0x9F, 0xD3, 0x27, 0x52, 0x4C, 0x36, 0x02, 0xE7, 0xA0, 0xC4, 0xC8, 0x9E]] ++
      [[0xEA, 0xBF, 0x8A, 0xD2, 0x40, 0xC7, 0x38, 0xB5, 0xA3, 0xF7, 0xF2, 0xCE, 0xF9, 0x61, 0x15, 0xA1]] ++
      [[0xE0, 0xAE, 0x5D, 0xA4, 0x9B, 0x34, 0x1A, 0x55, 0xAD, 0x93, 0x32, 0x30, 0xF5, 0x8C, 0xB1, 0xE3]] ++
      [[0x1D, 0xF6, 0xE2, 0x2E, 0x82, 0x66, 0xCA, 0x60, 0xC0, 0x29, 0x23, 0xAB, 0x0D, 0x53, 0x4E, 0x6F]] ++
      [[0xD5, 0xDB, 0x37, 0x45, 0xDE, 0xFD, 0x8E, 0x2F, 0x03, 0xFF, 0x6A, 0x72, 0x6D, 0x6C, 0x5B, 0x51]] ++
      [[0x8D, 0x1B, 0xAF, 0x92, 0xBB, 0xDD, 0xBC, 0x7F, 0x11, 0xD9, 0x5C, 0x41, 0x1F, 0x10, 0x5A, 0xD8]] ++
      [[0x0A, 0xC1, 0x31, 0x88, 0xA5, 0xCD, 0x7B, 0xBD, 0x2D, 0x74, 0xD0, 0x12, 0xB8, 0xE5, 0xB4, 0xB0]] ++
      [[0x89, 0x69, 0x97, 0x4A, 0x0C, 0x96, 0x77, 0x7E, 0x65, 0xB9, 0xF1, 0x09, 0xC5, 0x6E, 0xC6, 0x84]] ++
      [[0x18, 0xF0, 0x7D, 0xEC, 0x3A, 0xDC, 0x4D, 0x20, 0x79, 0xEE, 0x5F, 0x3E, 0xD7, 0xCB, 0x39, 0x48]];
    (∀ hi lo : Fin 16,
      sbox (BitVec.ofNat 8 (16 * hi.val + lo.val)) = (table.getD hi.val []).getD lo.val 0) ∧
    ∀ (rd rs1 : RReg) (s : State), ∃ t, exec (.sm4sb rd rs1) s = .next t ∧
      t.data.r[rd].extractLsb' 0 8 =
        (table.getD ((s.readR rs1).extractLsb' 4 4).toNat []).getD
          ((s.readR rs1).extractLsb' 0 4).toNat 0) ∧
  (Function.Bijective sbox ∧ sbox 0x00 = 0xD6 ∧ sbox 0xFF = 0x48 ∧ sbox 0x71 = 0x00) ∧
  ∀ (rd rs1 rs2 rs3 : RReg) (s : State),
    let b := s.readR rs1
    ∃ t u, exec (.sm4l rd rs1) s = .next t ∧ exec (.sm4lk rd rs1) s = .next u ∧
      (∀ i : Fin 32,
        t.data.r[rd].getLsbD i.val = (b.getLsbD i.val ^^ b.getLsbD ((i.val + 30) % 32) ^^
          b.getLsbD ((i.val + 22) % 32) ^^ b.getLsbD ((i.val + 14) % 32) ^^
          b.getLsbD ((i.val + 8) % 32)) ∧
        u.data.r[rd].getLsbD i.val = (b.getLsbD i.val ^^ b.getLsbD ((i.val + 19) % 32) ^^
          b.getLsbD ((i.val + 9) % 32))) ∧
      (s.readR rs1 = s.readR rs2 ^^^ s.readR rs3 →
        ∃ t₂ t₃ u₂ u₃, exec (.sm4l rd rs2) s = .next t₂ ∧ exec (.sm4l rd rs3) s = .next t₃ ∧
          exec (.sm4lk rd rs2) s = .next u₂ ∧ exec (.sm4lk rd rs3) s = .next u₃ ∧
          t.data.r[rd] = t₂.data.r[rd] ^^^ t₃.data.r[rd] ∧
          u.data.r[rd] = u₂.data.r[rd] ^^^ u₃.data.r[rd])
end

