-- ==== Sys2Proof/Laws/Encoding.lean ====
section
/-! SUPPORT. Lemmas of the command encoding (spec R100 to R104): the fields of an encoded word, the mask
test field by field, and the register-number fields. -/

namespace Sys2Proof

/-- Bit i of a word put together from its fields. -/
theorem getLsbD_cmdWord (op : BitVec 8) (rd rs1 rs2 rs3 : BitVec 4) (imm : BitVec 8) (i : Nat) :
    (cmdWord op rd rs1 rs2 rs3 imm).getLsbD i =
      if i < 8 then op.getLsbD i
      else if i < 12 then rd.getLsbD (i - 8)
      else if i < 16 then rs1.getLsbD (i - 12)
      else if i < 20 then rs2.getLsbD (i - 16)
      else if i < 24 then rs3.getLsbD (i - 20)
      else imm.getLsbD (i - 24) := by
  simp only [cmdWord, BitVec.getLsbD_append]
  grind

section fields
variable (op : BitVec 8) (rd rs1 rs2 rs3 : BitVec 4) (imm : BitVec 8)

@[simp] theorem opOf_cmdWord : opOf (cmdWord op rd rs1 rs2 rs3 imm) = op := by
  apply BitVec.eq_of_getLsbD_eq
  intro i hi
  simp only [opOf, BitVec.getLsbD_extractLsb', getLsbD_cmdWord]
  grind

@[simp] theorem rdOf_cmdWord : rdOf (cmdWord op rd rs1 rs2 rs3 imm) = rd := by
  apply BitVec.eq_of_getLsbD_eq
  intro i hi
  simp only [rdOf, BitVec.getLsbD_extractLsb', getLsbD_cmdWord]
  grind

@[simp] theorem rs1Of_cmdWord : rs1Of (cmdWord op rd rs1 rs2 rs3 imm) = rs1 := by
  apply BitVec.eq_of_getLsbD_eq
  intro i hi
  simp only [rs1Of, BitVec.getLsbD_extractLsb', getLsbD_cmdWord]
  grind

@[simp] theorem rs2Of_cmdWord : rs2Of (cmdWord op rd rs1 rs2 rs3 imm) = rs2 := by
  apply BitVec.eq_of_getLsbD_eq
  intro i hi
  simp only [rs2Of, BitVec.getLsbD_extractLsb', getLsbD_cmdWord]
  grind

@[simp] theorem rs3Of_cmdWord : rs3Of (cmdWord op rd rs1 rs2 rs3 imm) = rs3 := by
  apply BitVec.eq_of_getLsbD_eq
  intro i hi
  simp only [rs3Of, BitVec.getLsbD_extractLsb', getLsbD_cmdWord]
  grind

@[simp] theorem immOf_cmdWord : immOf (cmdWord op rd rs1 rs2 rs3 imm) = imm := by
  apply BitVec.eq_of_getLsbD_eq
  intro i hi
  simp only [immOf, BitVec.getLsbD_extractLsb', getLsbD_cmdWord]
  grind

end fields

/-- Every word is put together from its own fields. -/
theorem cmdWord_fields (w : Word) :
    cmdWord (opOf w) (rdOf w) (rs1Of w) (rs2Of w) (rs3Of w) (immOf w) = w := by
  apply BitVec.eq_of_getLsbD_eq
  intro i hi
  simp only [getLsbD_cmdWord, rs1Of, rs2Of, rs3Of, immOf, rdOf, opOf, BitVec.getLsbD_extractLsb']
  grind

/-- A mask acts field by field. -/
theorem cmdWord_and (op op' : BitVec 8) (rd rd' rs1 rs1' rs2 rs2' rs3 rs3' : BitVec 4)
    (imm imm' : BitVec 8) :
    cmdWord op rd rs1 rs2 rs3 imm &&& cmdWord op' rd' rs1' rs2' rs3' imm' =
      cmdWord (op &&& op') (rd &&& rd') (rs1 &&& rs1') (rs2 &&& rs2') (rs3 &&& rs3')
        (imm &&& imm') := by
  apply BitVec.eq_of_getLsbD_eq
  intro i hi
  simp only [BitVec.getLsbD_and, getLsbD_cmdWord]
  split_ifs <;> rfl

/-- The test (w & mask) = match of a row, field by field (R104). -/
theorem and_mask_eq_iff (w m k : Word) :
    w &&& m = k ↔
      opOf w &&& opOf m = opOf k ∧ rdOf w &&& rdOf m = rdOf k ∧ rs1Of w &&& rs1Of m = rs1Of k ∧
        rs2Of w &&& rs2Of m = rs2Of k ∧ rs3Of w &&& rs3Of m = rs3Of k ∧
        immOf w &&& immOf m = immOf k := by
  constructor
  · rintro rfl
    simp only [opOf, rdOf, rs1Of, rs2Of, rs3Of, immOf, BitVec.extractLsb'_and, and_self]
  · rintro ⟨h1, h2, h3, h4, h5, h6⟩
    rw [← cmdWord_fields w, ← cmdWord_fields m, cmdWord_and, h1, h2, h3, h4, h5, h6, cmdWord_fields]

/-- A word that its row's mask and match accept decodes to the row's command. -/
theorem decodeWord_of_row {w : Word} {row : Row} (h : rowOf w = some row)
    (hm : w &&& row.mask = row.mtch) : decodeWord w = .ok (row.build w) := by
  simp only [decodeWord, h, hm, if_true]

/-- A decoded word has a row, which accepts it and builds the command. -/
theorem row_of_decodeWord {w : Word} {i : Instr} (h : decodeWord w = .ok i) :
    ∃ row, rowOf w = some row ∧ w &&& row.mask = row.mtch ∧ row.build w = i := by
  unfold decodeWord at h
  cases hr : rowOf w with
  | none => rw [hr] at h; cases h
  | some row =>
    rw [hr] at h
    by_cases hm : w &&& row.mask = row.mtch
    · simp only [hm, if_true] at h
      exact ⟨row, rfl, hm, by injection h⟩
    · simp only [hm, if_false] at h
      cases h

/-- The row of a word stands in the table and has the word's OP. -/
theorem rowOf_mem {w : Word} {row : Row} (h : rowOf w = some row) :
    row ∈ opcodeTable ∧ opOf row.mtch = opOf w :=
  ⟨List.mem_of_find?_eq_some h, by simpa using List.find?_some h⟩

@[simp] theorem reg_fld (r : RReg) : reg (fld r.val) = r := by revert r; decide

@[simp] theorem pt_fld (r : PReg) : pt (fld r.val) = r := by revert r; decide

@[simp] theorem fld_reg (f : BitVec 4) : fld (reg f).val = f := by revert f; decide

/-- A point field whose two high bits are 0 is the field of its register number (R103). -/
theorem fld_pt {f : BitVec 4} : f &&& 12#4 = 0#4 → fld (pt f).val = f := by revert f; decide

/-- The mask bit of a pair field tests that the register number is even (R103). -/
theorem fld_and_one (k : RPair) : fld k.val &&& 1#4 = 0#4 ↔ pairEven k = true := by revert k; decide

/-- The two high bits of a point register's field are 0 (R103). -/
theorem fld_and_twelve (k : PReg) : fld k.val &&& 12#4 = 0#4 := by revert k; decide

/-- The five high bits of a ROM index field are 0 (R103). -/
theorem romField_and (k : RomIndex) : BitVec.ofNat 8 k.val &&& 248#8 = 0#8 := by revert k; decide

/-- Four byte lanes put together and taken apart (R77). -/
theorem wordOfBytes_bytesOfWord (w : Word) :
    wordOfBytes (w.extractLsb' 0 8) (w.extractLsb' 8 8) (w.extractLsb' 16 8) (w.extractLsb' 24 8)
      = w := by
  apply BitVec.eq_of_getLsbD_eq
  intro i hi
  simp only [wordOfBytes, BitVec.getLsbD_append, BitVec.getLsbD_extractLsb']
  grind

/-- The ROM index field of an encoded LDC (R132). -/
@[simp] theorem romIdx_cmdWord (op : BitVec 8) (rd rs1 rs2 rs3 : BitVec 4) (k : RomIndex) :
    romIdx (cmdWord op rd rs1 rs2 rs3 (BitVec.ofNat 8 k.val)) = k := by
  rw [romIdx, immOf_cmdWord]
  revert k
  decide

end Sys2Proof
end

