-- ==== Sys2Proof/Laws/State.lean ====
section
/-! SUPPORT. One lemma per field per update of the state, each true by rfl, so that no proof unfolds a
record update. The lemmas about setV and setKeys are proved by a rfl in parentheses, so that simp rewrites
with them instead of unfolding: comparing whole states by unfolding evaluates the SM3 compression or the
SM4 key expansion in the kernel. -/

namespace Sys2Proof.Machine

variable (s : State)

/-! ### writeR -/

@[simp] theorem writeR_data_r (i : RReg) (v : W256) : (s.writeR i v).data.r = s.data.r.set i v := rfl
@[simp] theorem writeR_data_pa (i : RReg) (v : W256) : (s.writeR i v).data.pa = s.data.pa := rfl
@[simp] theorem writeR_data_pj (i : RReg) (v : W256) : (s.writeR i v).data.pj = s.data.pj := rfl
@[simp] theorem writeR_data_v (i : RReg) (v : W256) : (s.writeR i v).data.v = s.data.v := rfl
@[simp] theorem writeR_data_rk (i : RReg) (v : W256) : (s.writeR i v).data.rk = s.data.rk := rfl
@[simp] theorem writeR_data_keyv (i : RReg) (v : W256) : (s.writeR i v).data.keyv = s.data.keyv := rfl
@[simp] theorem writeR_data_c (i : RReg) (v : W256) : (s.writeR i v).data.c = s.data.c := rfl
@[simp] theorem writeR_data_z (i : RReg) (v : W256) : (s.writeR i v).data.z = s.data.z := rfl
@[simp] theorem writeR_data_t (i : RReg) (v : W256) : (s.writeR i v).data.t = s.data.t := rfl
@[simp] theorem writeR_ie (i : RReg) (v : W256) : (s.writeR i v).ie = s.ie := rfl
@[simp] theorem writeR_busy (i : RReg) (v : W256) : (s.writeR i v).busy = s.busy := rfl
@[simp] theorem writeR_done (i : RReg) (v : W256) : (s.writeR i v).done = s.done := rfl
@[simp] theorem writeR_err (i : RReg) (v : W256) : (s.writeR i v).err = s.err := rfl
@[simp] theorem writeR_ovr (i : RReg) (v : W256) : (s.writeR i v).ovr = s.ovr := rfl
@[simp] theorem writeR_errcode (i : RReg) (v : W256) : (s.writeR i v).errcode = s.errcode := rfl
@[simp] theorem writeR_cmd (i : RReg) (v : W256) : (s.writeR i v).cmd = s.cmd := rfl
@[simp] theorem writeR_inflight (i : RReg) (v : W256) : (s.writeR i v).inflight = s.inflight := rfl
@[simp] theorem writeR_inReset (i : RReg) (v : W256) : (s.writeR i v).inReset = s.inReset := rfl
@[simp] theorem writeR_events (i : RReg) (v : W256) : (s.writeR i v).events = s.events := rfl
@[simp] theorem writeR_response (i : RReg) (v : W256) : (s.writeR i v).response = s.response := rfl
@[simp] theorem writeR_draws (i : RReg) (v : W256) : (s.writeR i v).draws = s.draws := rfl

/-! ### setPA -/

@[simp] theorem setPA_data_r (i : PReg) (p : AffReg) : (s.setPA i p).data.r = s.data.r := rfl
@[simp] theorem setPA_data_pa (i : PReg) (p : AffReg) : (s.setPA i p).data.pa = s.data.pa.set i p := rfl
@[simp] theorem setPA_data_pj (i : PReg) (p : AffReg) : (s.setPA i p).data.pj = s.data.pj := rfl
@[simp] theorem setPA_data_v (i : PReg) (p : AffReg) : (s.setPA i p).data.v = s.data.v := rfl
@[simp] theorem setPA_data_rk (i : PReg) (p : AffReg) : (s.setPA i p).data.rk = s.data.rk := rfl
@[simp] theorem setPA_data_keyv (i : PReg) (p : AffReg) : (s.setPA i p).data.keyv = s.data.keyv := rfl
@[simp] theorem setPA_data_c (i : PReg) (p : AffReg) : (s.setPA i p).data.c = s.data.c := rfl
@[simp] theorem setPA_data_z (i : PReg) (p : AffReg) : (s.setPA i p).data.z = s.data.z := rfl
@[simp] theorem setPA_data_t (i : PReg) (p : AffReg) : (s.setPA i p).data.t = s.data.t := rfl
@[simp] theorem setPA_ie (i : PReg) (p : AffReg) : (s.setPA i p).ie = s.ie := rfl
@[simp] theorem setPA_busy (i : PReg) (p : AffReg) : (s.setPA i p).busy = s.busy := rfl
@[simp] theorem setPA_done (i : PReg) (p : AffReg) : (s.setPA i p).done = s.done := rfl
@[simp] theorem setPA_err (i : PReg) (p : AffReg) : (s.setPA i p).err = s.err := rfl
@[simp] theorem setPA_ovr (i : PReg) (p : AffReg) : (s.setPA i p).ovr = s.ovr := rfl
@[simp] theorem setPA_errcode (i : PReg) (p : AffReg) : (s.setPA i p).errcode = s.errcode := rfl
@[simp] theorem setPA_cmd (i : PReg) (p : AffReg) : (s.setPA i p).cmd = s.cmd := rfl
@[simp] theorem setPA_inflight (i : PReg) (p : AffReg) : (s.setPA i p).inflight = s.inflight := rfl
@[simp] theorem setPA_inReset (i : PReg) (p : AffReg) : (s.setPA i p).inReset = s.inReset := rfl
@[simp] theorem setPA_events (i : PReg) (p : AffReg) : (s.setPA i p).events = s.events := rfl
@[simp] theorem setPA_response (i : PReg) (p : AffReg) : (s.setPA i p).response = s.response := rfl
@[simp] theorem setPA_draws (i : PReg) (p : AffReg) : (s.setPA i p).draws = s.draws := rfl

/-! ### setPJ -/

@[simp] theorem setPJ_data_r (i : JReg) (j : JacReg) : (s.setPJ i j).data.r = s.data.r := rfl
@[simp] theorem setPJ_data_pa (i : JReg) (j : JacReg) : (s.setPJ i j).data.pa = s.data.pa := rfl
@[simp] theorem setPJ_data_pj (i : JReg) (j : JacReg) : (s.setPJ i j).data.pj = s.data.pj.set i j := rfl
@[simp] theorem setPJ_data_v (i : JReg) (j : JacReg) : (s.setPJ i j).data.v = s.data.v := rfl
@[simp] theorem setPJ_data_rk (i : JReg) (j : JacReg) : (s.setPJ i j).data.rk = s.data.rk := rfl
@[simp] theorem setPJ_data_keyv (i : JReg) (j : JacReg) : (s.setPJ i j).data.keyv = s.data.keyv := rfl
@[simp] theorem setPJ_data_c (i : JReg) (j : JacReg) : (s.setPJ i j).data.c = s.data.c := rfl
@[simp] theorem setPJ_data_z (i : JReg) (j : JacReg) : (s.setPJ i j).data.z = s.data.z := rfl
@[simp] theorem setPJ_data_t (i : JReg) (j : JacReg) : (s.setPJ i j).data.t = s.data.t := rfl
@[simp] theorem setPJ_ie (i : JReg) (j : JacReg) : (s.setPJ i j).ie = s.ie := rfl
@[simp] theorem setPJ_busy (i : JReg) (j : JacReg) : (s.setPJ i j).busy = s.busy := rfl
@[simp] theorem setPJ_done (i : JReg) (j : JacReg) : (s.setPJ i j).done = s.done := rfl
@[simp] theorem setPJ_err (i : JReg) (j : JacReg) : (s.setPJ i j).err = s.err := rfl
@[simp] theorem setPJ_ovr (i : JReg) (j : JacReg) : (s.setPJ i j).ovr = s.ovr := rfl
@[simp] theorem setPJ_errcode (i : JReg) (j : JacReg) : (s.setPJ i j).errcode = s.errcode := rfl
@[simp] theorem setPJ_cmd (i : JReg) (j : JacReg) : (s.setPJ i j).cmd = s.cmd := rfl
@[simp] theorem setPJ_inflight (i : JReg) (j : JacReg) : (s.setPJ i j).inflight = s.inflight := rfl
@[simp] theorem setPJ_inReset (i : JReg) (j : JacReg) : (s.setPJ i j).inReset = s.inReset := rfl
@[simp] theorem setPJ_events (i : JReg) (j : JacReg) : (s.setPJ i j).events = s.events := rfl
@[simp] theorem setPJ_response (i : JReg) (j : JacReg) : (s.setPJ i j).response = s.response := rfl
@[simp] theorem setPJ_draws (i : JReg) (j : JacReg) : (s.setPJ i j).draws = s.draws := rfl

/-! ### setV -/

@[simp] theorem setV_data_r (v : W256) : (s.setV v).data.r = s.data.r := (rfl)
@[simp] theorem setV_data_pa (v : W256) : (s.setV v).data.pa = s.data.pa := (rfl)
@[simp] theorem setV_data_pj (v : W256) : (s.setV v).data.pj = s.data.pj := (rfl)
@[simp] theorem setV_data_v (v : W256) : (s.setV v).data.v = v := (rfl)
@[simp] theorem setV_data_rk (v : W256) : (s.setV v).data.rk = s.data.rk := (rfl)
@[simp] theorem setV_data_keyv (v : W256) : (s.setV v).data.keyv = s.data.keyv := (rfl)
@[simp] theorem setV_data_c (v : W256) : (s.setV v).data.c = s.data.c := (rfl)
@[simp] theorem setV_data_z (v : W256) : (s.setV v).data.z = s.data.z := (rfl)
@[simp] theorem setV_data_t (v : W256) : (s.setV v).data.t = s.data.t := (rfl)
@[simp] theorem setV_ie (v : W256) : (s.setV v).ie = s.ie := (rfl)
@[simp] theorem setV_busy (v : W256) : (s.setV v).busy = s.busy := (rfl)
@[simp] theorem setV_done (v : W256) : (s.setV v).done = s.done := (rfl)
@[simp] theorem setV_err (v : W256) : (s.setV v).err = s.err := (rfl)
@[simp] theorem setV_ovr (v : W256) : (s.setV v).ovr = s.ovr := (rfl)
@[simp] theorem setV_errcode (v : W256) : (s.setV v).errcode = s.errcode := (rfl)
@[simp] theorem setV_cmd (v : W256) : (s.setV v).cmd = s.cmd := (rfl)
@[simp] theorem setV_inflight (v : W256) : (s.setV v).inflight = s.inflight := (rfl)
@[simp] theorem setV_inReset (v : W256) : (s.setV v).inReset = s.inReset := (rfl)
@[simp] theorem setV_events (v : W256) : (s.setV v).events = s.events := (rfl)
@[simp] theorem setV_response (v : W256) : (s.setV v).response = s.response := (rfl)
@[simp] theorem setV_draws (v : W256) : (s.setV v).draws = s.draws := (rfl)

/-! ### setKeys -/

@[simp] theorem setKeys_data_r (rk : Vector Word 32) : (s.setKeys rk).data.r = s.data.r := (rfl)
@[simp] theorem setKeys_data_pa (rk : Vector Word 32) : (s.setKeys rk).data.pa = s.data.pa := (rfl)
@[simp] theorem setKeys_data_pj (rk : Vector Word 32) : (s.setKeys rk).data.pj = s.data.pj := (rfl)
@[simp] theorem setKeys_data_v (rk : Vector Word 32) : (s.setKeys rk).data.v = s.data.v := (rfl)
@[simp] theorem setKeys_data_rk (rk : Vector Word 32) : (s.setKeys rk).data.rk = rk := (rfl)
@[simp] theorem setKeys_data_keyv (rk : Vector Word 32) : (s.setKeys rk).data.keyv = true := (rfl)
@[simp] theorem setKeys_data_c (rk : Vector Word 32) : (s.setKeys rk).data.c = s.data.c := (rfl)
@[simp] theorem setKeys_data_z (rk : Vector Word 32) : (s.setKeys rk).data.z = s.data.z := (rfl)
@[simp] theorem setKeys_data_t (rk : Vector Word 32) : (s.setKeys rk).data.t = s.data.t := (rfl)
@[simp] theorem setKeys_ie (rk : Vector Word 32) : (s.setKeys rk).ie = s.ie := (rfl)
@[simp] theorem setKeys_busy (rk : Vector Word 32) : (s.setKeys rk).busy = s.busy := (rfl)
@[simp] theorem setKeys_done (rk : Vector Word 32) : (s.setKeys rk).done = s.done := (rfl)
@[simp] theorem setKeys_err (rk : Vector Word 32) : (s.setKeys rk).err = s.err := (rfl)
@[simp] theorem setKeys_ovr (rk : Vector Word 32) : (s.setKeys rk).ovr = s.ovr := (rfl)
@[simp] theorem setKeys_errcode (rk : Vector Word 32) : (s.setKeys rk).errcode = s.errcode := (rfl)
@[simp] theorem setKeys_cmd (rk : Vector Word 32) : (s.setKeys rk).cmd = s.cmd := (rfl)
@[simp] theorem setKeys_inflight (rk : Vector Word 32) : (s.setKeys rk).inflight = s.inflight := (rfl)
@[simp] theorem setKeys_inReset (rk : Vector Word 32) : (s.setKeys rk).inReset = s.inReset := (rfl)
@[simp] theorem setKeys_events (rk : Vector Word 32) : (s.setKeys rk).events = s.events := (rfl)
@[simp] theorem setKeys_response (rk : Vector Word 32) : (s.setKeys rk).response = s.response := (rfl)
@[simp] theorem setKeys_draws (rk : Vector Word 32) : (s.setKeys rk).draws = s.draws := (rfl)

/-! ### setC -/

@[simp] theorem setC_data_r (b : Bool) : (s.setC b).data.r = s.data.r := rfl
@[simp] theorem setC_data_pa (b : Bool) : (s.setC b).data.pa = s.data.pa := rfl
@[simp] theorem setC_data_pj (b : Bool) : (s.setC b).data.pj = s.data.pj := rfl
@[simp] theorem setC_data_v (b : Bool) : (s.setC b).data.v = s.data.v := rfl
@[simp] theorem setC_data_rk (b : Bool) : (s.setC b).data.rk = s.data.rk := rfl
@[simp] theorem setC_data_keyv (b : Bool) : (s.setC b).data.keyv = s.data.keyv := rfl
@[simp] theorem setC_data_c (b : Bool) : (s.setC b).data.c = b := rfl
@[simp] theorem setC_data_z (b : Bool) : (s.setC b).data.z = s.data.z := rfl
@[simp] theorem setC_data_t (b : Bool) : (s.setC b).data.t = s.data.t := rfl
@[simp] theorem setC_ie (b : Bool) : (s.setC b).ie = s.ie := rfl
@[simp] theorem setC_busy (b : Bool) : (s.setC b).busy = s.busy := rfl
@[simp] theorem setC_done (b : Bool) : (s.setC b).done = s.done := rfl
@[simp] theorem setC_err (b : Bool) : (s.setC b).err = s.err := rfl
@[simp] theorem setC_ovr (b : Bool) : (s.setC b).ovr = s.ovr := rfl
@[simp] theorem setC_errcode (b : Bool) : (s.setC b).errcode = s.errcode := rfl
@[simp] theorem setC_cmd (b : Bool) : (s.setC b).cmd = s.cmd := rfl
@[simp] theorem setC_inflight (b : Bool) : (s.setC b).inflight = s.inflight := rfl
@[simp] theorem setC_inReset (b : Bool) : (s.setC b).inReset = s.inReset := rfl
@[simp] theorem setC_events (b : Bool) : (s.setC b).events = s.events := rfl
@[simp] theorem setC_response (b : Bool) : (s.setC b).response = s.response := rfl
@[simp] theorem setC_draws (b : Bool) : (s.setC b).draws = s.draws := rfl

/-! ### setZ -/

@[simp] theorem setZ_data_r (b : Bool) : (s.setZ b).data.r = s.data.r := rfl
@[simp] theorem setZ_data_pa (b : Bool) : (s.setZ b).data.pa = s.data.pa := rfl
@[simp] theorem setZ_data_pj (b : Bool) : (s.setZ b).data.pj = s.data.pj := rfl
@[simp] theorem setZ_data_v (b : Bool) : (s.setZ b).data.v = s.data.v := rfl
@[simp] theorem setZ_data_rk (b : Bool) : (s.setZ b).data.rk = s.data.rk := rfl
@[simp] theorem setZ_data_keyv (b : Bool) : (s.setZ b).data.keyv = s.data.keyv := rfl
@[simp] theorem setZ_data_c (b : Bool) : (s.setZ b).data.c = s.data.c := rfl
@[simp] theorem setZ_data_z (b : Bool) : (s.setZ b).data.z = b := rfl
@[simp] theorem setZ_data_t (b : Bool) : (s.setZ b).data.t = s.data.t := rfl
@[simp] theorem setZ_ie (b : Bool) : (s.setZ b).ie = s.ie := rfl
@[simp] theorem setZ_busy (b : Bool) : (s.setZ b).busy = s.busy := rfl
@[simp] theorem setZ_done (b : Bool) : (s.setZ b).done = s.done := rfl
@[simp] theorem setZ_err (b : Bool) : (s.setZ b).err = s.err := rfl
@[simp] theorem setZ_ovr (b : Bool) : (s.setZ b).ovr = s.ovr := rfl
@[simp] theorem setZ_errcode (b : Bool) : (s.setZ b).errcode = s.errcode := rfl
@[simp] theorem setZ_cmd (b : Bool) : (s.setZ b).cmd = s.cmd := rfl
@[simp] theorem setZ_inflight (b : Bool) : (s.setZ b).inflight = s.inflight := rfl
@[simp] theorem setZ_inReset (b : Bool) : (s.setZ b).inReset = s.inReset := rfl
@[simp] theorem setZ_events (b : Bool) : (s.setZ b).events = s.events := rfl
@[simp] theorem setZ_response (b : Bool) : (s.setZ b).response = s.response := rfl
@[simp] theorem setZ_draws (b : Bool) : (s.setZ b).draws = s.draws := rfl

/-! ### setT -/

@[simp] theorem setT_data_r (b : Bool) : (s.setT b).data.r = s.data.r := rfl
@[simp] theorem setT_data_pa (b : Bool) : (s.setT b).data.pa = s.data.pa := rfl
@[simp] theorem setT_data_pj (b : Bool) : (s.setT b).data.pj = s.data.pj := rfl
@[simp] theorem setT_data_v (b : Bool) : (s.setT b).data.v = s.data.v := rfl
@[simp] theorem setT_data_rk (b : Bool) : (s.setT b).data.rk = s.data.rk := rfl
@[simp] theorem setT_data_keyv (b : Bool) : (s.setT b).data.keyv = s.data.keyv := rfl
@[simp] theorem setT_data_c (b : Bool) : (s.setT b).data.c = s.data.c := rfl
@[simp] theorem setT_data_z (b : Bool) : (s.setT b).data.z = s.data.z := rfl
@[simp] theorem setT_data_t (b : Bool) : (s.setT b).data.t = b := rfl
@[simp] theorem setT_ie (b : Bool) : (s.setT b).ie = s.ie := rfl
@[simp] theorem setT_busy (b : Bool) : (s.setT b).busy = s.busy := rfl
@[simp] theorem setT_done (b : Bool) : (s.setT b).done = s.done := rfl
@[simp] theorem setT_err (b : Bool) : (s.setT b).err = s.err := rfl
@[simp] theorem setT_ovr (b : Bool) : (s.setT b).ovr = s.ovr := rfl
@[simp] theorem setT_errcode (b : Bool) : (s.setT b).errcode = s.errcode := rfl
@[simp] theorem setT_cmd (b : Bool) : (s.setT b).cmd = s.cmd := rfl
@[simp] theorem setT_inflight (b : Bool) : (s.setT b).inflight = s.inflight := rfl
@[simp] theorem setT_inReset (b : Bool) : (s.setT b).inReset = s.inReset := rfl
@[simp] theorem setT_events (b : Bool) : (s.setT b).events = s.events := rfl
@[simp] theorem setT_response (b : Bool) : (s.setT b).response = s.response := rfl
@[simp] theorem setT_draws (b : Bool) : (s.setT b).draws = s.draws := rfl

/-! ### finish -/

@[simp] theorem finish_data : (s.finish).data = s.data := rfl
@[simp] theorem finish_ie : (s.finish).ie = s.ie := rfl
@[simp] theorem finish_busy : (s.finish).busy = false := rfl
@[simp] theorem finish_done : (s.finish).done = true := rfl
@[simp] theorem finish_err : (s.finish).err = s.err := rfl
@[simp] theorem finish_ovr : (s.finish).ovr = s.ovr := rfl
@[simp] theorem finish_errcode : (s.finish).errcode = s.errcode := rfl
@[simp] theorem finish_cmd : (s.finish).cmd = s.cmd := rfl
@[simp] theorem finish_inflight : (s.finish).inflight = none := rfl
@[simp] theorem finish_inReset : (s.finish).inReset = s.inReset := rfl
@[simp] theorem finish_events : (s.finish).events = s.events := rfl
@[simp] theorem finish_response : (s.finish).response = s.response := rfl
@[simp] theorem finish_draws : (s.finish).draws = s.draws := rfl

/-! ### raised -/

@[simp] theorem raised_data (e : CmdError) : (s.raised e).data = s.data := rfl
@[simp] theorem raised_ie (e : CmdError) : (s.raised e).ie = s.ie := rfl
@[simp] theorem raised_busy (e : CmdError) : (s.raised e).busy = false := rfl
@[simp] theorem raised_done (e : CmdError) : (s.raised e).done = true := rfl
@[simp] theorem raised_err (e : CmdError) : (s.raised e).err = true := rfl
@[simp] theorem raised_ovr (e : CmdError) : (s.raised e).ovr = s.ovr := rfl
@[simp] theorem raised_errcode (e : CmdError) : (s.raised e).errcode = e.code := rfl
@[simp] theorem raised_cmd (e : CmdError) : (s.raised e).cmd = s.cmd := rfl
@[simp] theorem raised_inflight (e : CmdError) : (s.raised e).inflight = none := rfl
@[simp] theorem raised_inReset (e : CmdError) : (s.raised e).inReset = s.inReset := rfl
@[simp] theorem raised_events (e : CmdError) : (s.raised e).events = s.events := rfl
@[simp] theorem raised_response (e : CmdError) : (s.raised e).response = s.response := rfl
@[simp] theorem raised_draws (e : CmdError) : (s.raised e).draws = s.draws := rfl

/-! ### clearStatus -/

@[simp] theorem clearStatus_data (w : Word) : (s.clearStatus w).data = s.data := rfl
@[simp] theorem clearStatus_ie (w : Word) : (s.clearStatus w).ie = s.ie := rfl
@[simp] theorem clearStatus_busy (w : Word) : (s.clearStatus w).busy = s.busy := rfl
@[simp] theorem clearStatus_done (w : Word) : (s.clearStatus w).done = (s.done && !w.getLsbD 1) := rfl
@[simp] theorem clearStatus_err (w : Word) : (s.clearStatus w).err = (s.err && !w.getLsbD 2) := rfl
@[simp] theorem clearStatus_ovr (w : Word) : (s.clearStatus w).ovr = (s.ovr && !w.getLsbD 3) := rfl
@[simp] theorem clearStatus_errcode (w : Word) : (s.clearStatus w).errcode = (if w.getLsbD 2 then 0 else s.errcode) := rfl
@[simp] theorem clearStatus_cmd (w : Word) : (s.clearStatus w).cmd = s.cmd := rfl
@[simp] theorem clearStatus_inflight (w : Word) : (s.clearStatus w).inflight = s.inflight := rfl
@[simp] theorem clearStatus_inReset (w : Word) : (s.clearStatus w).inReset = s.inReset := rfl
@[simp] theorem clearStatus_events (w : Word) : (s.clearStatus w).events = s.events := rfl
@[simp] theorem clearStatus_response (w : Word) : (s.clearStatus w).response = s.response := rfl
@[simp] theorem clearStatus_draws (w : Word) : (s.clearStatus w).draws = s.draws := rfl

/-! ### resetBlock -/

@[simp] theorem resetBlock_data : (s.resetBlock).data = Data.reset := rfl
@[simp] theorem resetBlock_ie : (s.resetBlock).ie = false := rfl
@[simp] theorem resetBlock_busy : (s.resetBlock).busy = false := rfl
@[simp] theorem resetBlock_done : (s.resetBlock).done = false := rfl
@[simp] theorem resetBlock_err : (s.resetBlock).err = false := rfl
@[simp] theorem resetBlock_ovr : (s.resetBlock).ovr = false := rfl
@[simp] theorem resetBlock_errcode : (s.resetBlock).errcode = 0 := rfl
@[simp] theorem resetBlock_cmd : (s.resetBlock).cmd = 0 := rfl
@[simp] theorem resetBlock_inflight : (s.resetBlock).inflight = none := rfl
@[simp] theorem resetBlock_inReset : (s.resetBlock).inReset = s.inReset := rfl
@[simp] theorem resetBlock_events : (s.resetBlock).events = s.events := rfl
@[simp] theorem resetBlock_response : (s.resetBlock).response = s.response := rfl
@[simp] theorem resetBlock_draws : (s.resetBlock).draws = s.draws := rfl

/-! ### answer -/

@[simp] theorem answer_data (o : Bool) (d : Option Word) : (s.answer o d).data = s.data := rfl
@[simp] theorem answer_ie (o : Bool) (d : Option Word) : (s.answer o d).ie = s.ie := rfl
@[simp] theorem answer_busy (o : Bool) (d : Option Word) : (s.answer o d).busy = s.busy := rfl
@[simp] theorem answer_done (o : Bool) (d : Option Word) : (s.answer o d).done = s.done := rfl
@[simp] theorem answer_err (o : Bool) (d : Option Word) : (s.answer o d).err = s.err := rfl
@[simp] theorem answer_ovr (o : Bool) (d : Option Word) : (s.answer o d).ovr = s.ovr := rfl
@[simp] theorem answer_errcode (o : Bool) (d : Option Word) : (s.answer o d).errcode = s.errcode := rfl
@[simp] theorem answer_cmd (o : Bool) (d : Option Word) : (s.answer o d).cmd = s.cmd := rfl
@[simp] theorem answer_inflight (o : Bool) (d : Option Word) : (s.answer o d).inflight = s.inflight := rfl
@[simp] theorem answer_inReset (o : Bool) (d : Option Word) : (s.answer o d).inReset = s.inReset := rfl
@[simp] theorem answer_events (o : Bool) (d : Option Word) : (s.answer o d).events = s.events := rfl
@[simp] theorem answer_response (o : Bool) (d : Option Word) : (s.answer o d).response = some ⟨o, d⟩ := rfl
@[simp] theorem answer_draws (o : Bool) (d : Option Word) : (s.answer o d).draws = s.draws := rfl

/-! ### drawn -/

@[simp] theorem drawn_data : (s.drawn).data = s.data := rfl
@[simp] theorem drawn_ie : (s.drawn).ie = s.ie := rfl
@[simp] theorem drawn_busy : (s.drawn).busy = s.busy := rfl
@[simp] theorem drawn_done : (s.drawn).done = s.done := rfl
@[simp] theorem drawn_err : (s.drawn).err = s.err := rfl
@[simp] theorem drawn_ovr : (s.drawn).ovr = s.ovr := rfl
@[simp] theorem drawn_errcode : (s.drawn).errcode = s.errcode := rfl
@[simp] theorem drawn_cmd : (s.drawn).cmd = s.cmd := rfl
@[simp] theorem drawn_inflight : (s.drawn).inflight = s.inflight := rfl
@[simp] theorem drawn_inReset : (s.drawn).inReset = s.inReset := rfl
@[simp] theorem drawn_events : (s.drawn).events = s.events := rfl
@[simp] theorem drawn_response : (s.drawn).response = s.response := rfl
@[simp] theorem drawn_draws : (s.drawn).draws = s.draws + 1 := rfl

/-! ### accept -/

@[simp] theorem accept_data (w : Word) : (s.accept w).data = s.data := rfl
@[simp] theorem accept_ie (w : Word) : (s.accept w).ie = s.ie := rfl
@[simp] theorem accept_busy (w : Word) : (s.accept w).busy = true := rfl
@[simp] theorem accept_done (w : Word) : (s.accept w).done = false := rfl
@[simp] theorem accept_err (w : Word) : (s.accept w).err = s.err := rfl
@[simp] theorem accept_ovr (w : Word) : (s.accept w).ovr = s.ovr := rfl
@[simp] theorem accept_errcode (w : Word) : (s.accept w).errcode = s.errcode := rfl
@[simp] theorem accept_cmd (w : Word) : (s.accept w).cmd = w := rfl
@[simp] theorem accept_inflight (w : Word) : (s.accept w).inflight = some ⟨w, s.data⟩ := rfl
@[simp] theorem accept_inReset (w : Word) : (s.accept w).inReset = s.inReset := rfl
@[simp] theorem accept_events (w : Word) : (s.accept w).events = s.events := rfl
@[simp] theorem accept_response (w : Word) : (s.accept w).response = s.response := rfl
@[simp] theorem accept_draws (w : Word) : (s.accept w).draws = s.draws := rfl

end Sys2Proof.Machine
end

