-- ==== Sys2Proof/Laws/Ops.lean ====
section
/-! SUPPORT. What each shared operation can do, said once: reading operands, the two ways a command ends,
the frames of the destination writes, the pair guard, the modulus guard, residues and bit lengths. -/

namespace Sys2Proof.Machine

/-! ### Reading operands -/

theorem src_of_none {s : State} (h : s.inflight = none) : s.src = s.data := by simp [State.src, h]

theorem src_of_some {s : State} {f : InFlight} (h : s.inflight = some f) : s.src = f.snap := by
  simp [State.src, h]

/-- Under the invariant a command reads the live registers (R52). -/
theorem src_of_inv {s : State} (h : s.Inv) : s.src = s.data := by
  cases hf : s.inflight with
  | none => exact src_of_none hf
  | some f => rw [src_of_some hf, (h.snapshotLive f hf).2]

theorem natR_of_none {s : State} (h : s.inflight = none) (i : RReg) : s.natR i = s.data.r[i].toNat := by
  simp [State.natR, State.readR, src_of_none h]

/-- An operand is below 2^256 (R31). -/
theorem natR_lt (s : State) (i : RReg) : s.natR i < 2 ^ 256 := (s.readR i).isLt

theorem readPair_lt (s : State) (k : RPair) : s.readPair k < 2 ^ 512 := by
  have h1 := natR_lt s k
  have h2 := natR_lt s (pairHigh k)
  unfold State.readPair
  omega

/-! ### Vectors indexed by register numbers -/

@[simp] theorem vset_same {α : Type} {n : Nat} (v : Vector α n) (i : Fin n) (x : α) :
    (v.set i x)[i] = x := by simp

theorem vset_other {α : Type} {n : Nat} (v : Vector α n) {i k : Fin n} (x : α) (h : k ≠ i) :
    (v.set i x)[k] = v[k] := by
  have : i.val ≠ k.val := fun e => h (Fin.ext e.symm)
  simp [this]

theorem pairHigh_ne (k : RPair) : pairHigh k ≠ k := by revert k; decide

/-- An even register's partner has the next number (R33). -/
theorem pairHigh_val {k : RPair} (h : pairEven k = true) : (pairHigh k).val = k.val + 1 := by
  revert k; decide

/-! ### The two ways a command ends -/

/-- A command that succeeds on new register contents `d` changes nothing else but BUSY, DONE and the
command in flight (R74). -/
theorem succeeds_finish (s : State) (d : Data) : Succeeds s { s with data := d }.finish :=
  ⟨⟨rfl, rfl, rfl, rfl, rfl, rfl, rfl, rfl, rfl, rfl⟩, rfl, rfl⟩

/-- An error completion writes ERR, ERRCODE, BUSY and DONE and nothing else (R403). -/
theorem fails_raised (e : CmdError) (s : State) : Fails e s (s.raised e) :=
  ⟨⟨rfl, rfl, rfl, rfl, rfl, rfl, rfl, rfl, rfl, rfl⟩, rfl, rfl, rfl⟩

theorem keepsR_refl (s t : State) (l : List RReg) (h : t.data.r = s.data.r) : KeepsR s t l :=
  fun k _ => by rw [h]

theorem keepsPA_refl (s t : State) (l : List PReg) (h : t.data.pa = s.data.pa) : KeepsPA s t l :=
  fun k _ => by rw [h]

theorem keepsPJ_refl (s t : State) (l : List JReg) (h : t.data.pj = s.data.pj) : KeepsPJ s t l :=
  fun k _ => by rw [h]

/-- The frame of a command that writes flags only. -/
theorem writesR_none (s : State) (c z b : Bool) :
    WritesR s { s with data := { s.data with c := c, z := z, t := b } }.finish [] :=
  ⟨succeeds_finish s _, keepsR_refl _ _ _ rfl, keepsPA_refl _ _ _ rfl, keepsPJ_refl _ _ _ rfl, rfl,
    rfl, rfl⟩

/-- The frame of a command that writes one operand register and flags. -/
theorem writesR_one (s : State) (rd : RReg) (v : W256) (c z b : Bool) :
    WritesR s { s with data := { s.data with r := s.data.r.set rd v, c := c, z := z, t := b } }.finish
      [rd] :=
  ⟨succeeds_finish s _, fun k hk => vset_other _ _ (by simpa using hk), keepsPA_refl _ _ _ rfl,
    keepsPJ_refl _ _ _ rfl, rfl, rfl, rfl⟩

/-- The frame of a command that writes a register pair and flags (R33). -/
theorem writesR_pair (s : State) (k : RPair) (lo hi : W256) (c z b : Bool) :
    WritesR s { s with data := { s.data with
      r := (s.data.r.set k lo).set (pairHigh k) hi, c := c, z := z, t := b } }.finish
      [k, pairHigh k] :=
  ⟨succeeds_finish s _, fun j hj => by
      simp only [List.mem_cons, List.not_mem_nil, or_false, not_or] at hj
      exact (vset_other _ _ hj.2).trans (vset_other _ _ hj.1),
    keepsPA_refl _ _ _ rfl, keepsPJ_refl _ _ _ rfl, rfl, rfl, rfl⟩

/-- The frame of a command that writes one affine register and flags. -/
theorem writesPA_one (s : State) (pd : PReg) (p : AffReg) (c z b : Bool) :
    WritesPA s { s with data := { s.data with pa := s.data.pa.set pd p, c := c, z := z, t := b } }.finish
      pd :=
  ⟨succeeds_finish s _, keepsR_refl _ _ _ rfl, fun k hk => vset_other _ _ (by simpa using hk),
    keepsPJ_refl _ _ _ rfl, rfl, rfl, rfl⟩

/-- The frame of a command that writes one Jacobian register and flags. -/
theorem writesPJ_one (s : State) (jd : JReg) (j : JacReg) (c z b : Bool) :
    WritesPJ s { s with data := { s.data with pj := s.data.pj.set jd j, c := c, z := z, t := b } }.finish
      jd :=
  ⟨succeeds_finish s _, keepsR_refl _ _ _ rfl, keepsPA_refl _ _ _ rfl,
    fun k hk => vset_other _ _ (by simpa using hk), rfl, rfl, rfl⟩

/-- The frame of a command that writes V. -/
theorem writesV_finish (s : State) (v : W256) : WritesV s (s.setV v).finish :=
  ⟨succeeds_finish s _, keepsR_refl _ _ _ rfl, keepsPA_refl _ _ _ rfl, keepsPJ_refl _ _ _ rfl,
    ⟨rfl, rfl⟩, rfl, rfl, rfl⟩

/-- The frame of a command that writes the round keys. -/
theorem writesKeys_finish (s : State) (rk : Vector Word 32) : WritesKeys s (s.setKeys rk).finish :=
  ⟨succeeds_finish s _, keepsR_refl _ _ _ rfl, keepsPA_refl _ _ _ rfl, keepsPJ_refl _ _ _ rfl, rfl,
    rfl, rfl, rfl⟩

/-! ### Guards -/

theorem withPair_even {k : RPair} (h : pairEven k = true) (s : State) (body : Result) :
    withPair k s body = body := by simp [withPair, h]

theorem withPair_odd {k : RPair} (h : pairEven k = false) (s : State) (body : Result) :
    withPair k s body = .next (s.raised .illegal) := by simp [withPair, h, raise]

/-- With modulus 0 a modular command ends with DIV_ZERO (R180). -/
theorem modular_zero {rs3 : RReg} {s : State} (h : s.natR rs3 = 0) (rd : RReg) (f : Nat → Nat) :
    modular rd rs3 f s = .next (s.raised .divZero) := by simp [modular, h, raise]

theorem modular_nonzero {rs3 : RReg} {s : State} (h : s.natR rs3 ≠ 0) (rd : RReg) (f : Nat → Nat) :
    modular rd rs3 f s = s.writeResidue rd (f (s.natR rs3)) := by simp [modular, h]

/-! ### Flags -/

/-- Z of a 256-bit result, on the number (R34). -/
theorem isZero_eq (v : W256) : isZero v = decide (v.toNat = 0) := by
  rw [isZero, Bool.eq_iff_iff, beq_iff_eq, decide_eq_true_iff]
  exact ⟨fun h => by rw [h]; rfl, fun h => BitVec.eq_of_toNat_eq h⟩

/-- C of a subtraction, on the numbers (R151, R154). -/
theorem subBorrow_eq (a b : W256) : subBorrow a b = decide (a.toNat < b.toNat) := by
  rw [subBorrow, Bool.eq_iff_iff, decide_eq_true_iff, decide_eq_true_iff]
  omega

/-! ### Residues -/

/-- Everything a residue-writing command does: it answers next, writes the residue and Z, and keeps C
and T (R189, R200). -/
theorem writeResidue_spec (s : State) (rd : RReg) {r : Nat} (hr : r < 2 ^ 256) :
    ∃ t, s.writeResidue rd r = .next t ∧ WritesR s t [rd] ∧ t.data.r[rd].toNat = r ∧
      t.data.z = decide (r = 0) ∧ t.data.c = s.data.c ∧ t.data.t = s.data.t := by
  refine ⟨_, rfl, writesR_one s rd (BitVec.ofNat 256 r) s.data.c (natZero r) s.data.t, ?_, ?_, rfl, rfl⟩
  · simp only [finish_data, setZ_data_r, writeR_data_r, vset_same, BitVec.toNat_ofNat]
    exact Nat.mod_eq_of_lt hr
  · rfl

/-- A residue modulo an operand fits a register (R188). -/
theorem mod_natR_lt {s : State} {i : RReg} (h : s.natR i ≠ 0) (v : Nat) : v % s.natR i < 2 ^ 256 :=
  (Nat.mod_lt _ (Nat.pos_of_ne_zero h)).trans (natR_lt s i)

/-- The residue of a difference, as an integer (R13). -/
theorem subMod_int (a b : Nat) {m : Nat} (h : m ≠ 0) :
    ((subMod a b m : Nat) : Int) = ((a : Int) - b) % m :=
  Int.toNat_of_nonneg (Int.emod_nonneg _ (by exact_mod_cast h))

theorem subMod_lt (a b : Nat) {m : Nat} (h : m ≠ 0) : subMod a b m < m := by
  have h1 := subMod_int a b h
  have h2 := Int.emod_lt_of_pos ((a : Int) - b) (show (0 : Int) < m by omega)
  omega

/-! ### Bit lengths (R13) -/

theorem lt_two_pow_bitlen (v : Nat) : v < 2 ^ bitlen v := by
  unfold bitlen
  split
  · omega
  · exact Nat.lt_log2_self

theorem bitlen_le {v l : Nat} (h : v < 2 ^ l) : bitlen v ≤ l := by
  unfold bitlen
  split
  · omega
  · next hv => exact (Nat.log2_lt hv).2 h

/-- A bit length fits a register (R155). -/
theorem bitlen_natR_le (s : State) (i : RReg) : bitlen (s.natR i) ≤ 256 := bitlen_le (natR_lt s i)

/-! ### Exponentiation (R186) -/

/-- The exponentiation loop from the accumulator a^x: each round appends one exponent bit. -/
theorem mpowLoop_eq (a e : Nat) (m : Nat) : ∀ (i x r : Nat), r = a ^ x % m →
    mpowLoop a e m i r = a ^ (x * 2 ^ i + e % 2 ^ i) % m := by
  intro i
  induction i with
  | zero => intro x r hr; simp [mpowLoop, hr, Nat.mod_one]
  | succ i ih =>
    intro x r hr
    have hsq : (r * r) % m = a ^ (2 * x) % m := by
      rw [hr, ← Nat.mul_mod, ← pow_add, two_mul]
    have hbit : e % 2 ^ (i + 1) = (e.testBit i).toNat * 2 ^ i + e % 2 ^ i := by
      rw [Nat.mod_pow_succ, Nat.toNat_testBit, Nat.mul_comm, Nat.add_comm]
    simp only [mpowLoop]
    cases hb : e.testBit i
    · rw [if_neg (by simp), ih (2 * x) _ hsq, hbit, hb]
      congr 2
      simp only [Bool.toNat_false, Nat.zero_mul, Nat.zero_add]
      ring
    · rw [if_pos rfl, ih (2 * x + 1) _ (by rw [hsq, Nat.mod_mul_mod, pow_succ]), hbit, hb]
      congr 2
      simp only [Bool.toNat_true]
      ring

/-- MPOW_core gives a^(e mod 2^L) mod m, with L the bit length of m (R186). -/
theorem mpowCore_eq (a e m : Nat) : mpowCore a e m = a ^ (e % 2 ^ bitlen m) % m := by
  rw [mpowCore, mpowLoop_eq a e m (bitlen m) 0 (1 % m) (by simp)]
  simp

/-- With an exponent below the modulus no exponent bit is ignored (R186). -/
theorem mpowCore_of_lt (a : Nat) {e m : Nat} (h : e < m) : mpowCore a e m = a ^ e % m := by
  rw [mpowCore_eq, Nat.mod_eq_of_lt (h.trans (lt_two_pow_bitlen m))]

end Sys2Proof.Machine
end

