-- ==== Sys2Proof/Laws/Field.lean ====
section
/-! SUPPORT. The field operations as arithmetic in ZMod p and their ranges (spec R15, R200), and what a
point register holds after it was written (R231). -/

namespace Sys2Proof.Machine

theorem p_pos : 0 < Config.SM2_p := by decide

theorem p_lt : Config.SM2_p < 2 ^ 256 := by decide

/-! ### Ranges -/

theorem fp_lt (v : Nat) : fp v < Config.SM2_p := Nat.mod_lt _ p_pos

theorem fAdd_lt (a b : Nat) : fAdd a b < Config.SM2_p := fp_lt _

theorem fSub_lt (a b : Nat) : fSub a b < Config.SM2_p := subMod_lt a b p_pos.ne'

theorem fMul_lt (a b : Nat) : fMul a b < Config.SM2_p := fp_lt _

theorem fp_of_lt {v : Nat} (h : v < Config.SM2_p) : fp v = v := Nat.mod_eq_of_lt h

/-! ### Casts to the field -/

@[simp] theorem fp_cast (v : Nat) : ((fp v : Nat) : ZMod Config.SM2_p) = v := by simp [fp]

@[simp] theorem fAdd_cast (a b : Nat) : ((fAdd a b : Nat) : ZMod Config.SM2_p) = a + b := by
  simp [fAdd]

@[simp] theorem fMul_cast (a b : Nat) : ((fMul a b : Nat) : ZMod Config.SM2_p) = a * b := by
  simp [fMul]

@[simp] theorem fSub_cast (a b : Nat) : ((fSub a b : Nat) : ZMod Config.SM2_p) = a - b := by
  have h : ((fSub a b : Nat) : Int) = ((a : Int) - b) % (Config.SM2_p : Int) :=
    subMod_int a b p_pos.ne'
  have h2 := congrArg (Int.cast : Int → ZMod Config.SM2_p) h
  rw [ZMod.intCast_mod] at h2
  push_cast at h2
  exact h2

/-- A reduced value is 0 exactly when it is 0 in the field. -/
theorem cast_eq_zero_of_lt {v : Nat} (h : v < Config.SM2_p) :
    (v : ZMod Config.SM2_p) = 0 ↔ v = 0 := by
  rw [ZMod.natCast_eq_zero_iff]
  exact ⟨fun hd => Nat.eq_zero_of_dvd_of_lt hd h, fun e => e ▸ dvd_zero _⟩

/-- Two reduced values are equal exactly when they are equal in the field. -/
theorem cast_inj_of_lt {v w : Nat} (hv : v < Config.SM2_p) (hw : w < Config.SM2_p) :
    (v : ZMod Config.SM2_p) = w ↔ v = w := by
  rw [ZMod.natCast_eq_natCast_iff', Nat.mod_eq_of_lt hv, Nat.mod_eq_of_lt hw]

/-- The curve coefficient a is −3 in the field (R19). -/
theorem a_cast : ((Config.SM2_a : Nat) : ZMod Config.SM2_p) = -3 := by
  have h : Config.SM2_a + 3 = Config.SM2_p := by decide
  have h2 := congrArg (Nat.cast : Nat → ZMod Config.SM2_p) h
  rw [ZMod.natCast_self] at h2
  push_cast at h2
  linear_combination h2

/-! ### Register access (R231) -/

/-- A reduced value read back from a 256-bit register. -/
theorem toNat_ofNat_of_lt {v : Nat} (h : v < Config.SM2_p) : (BitVec.ofNat 256 v).toNat = v := by
  rw [BitVec.toNat_ofNat, Nat.mod_eq_of_lt (h.trans p_lt)]

/-- A written affine point reads back (R231). -/
theorem toReg_point_affine {x y : Nat} (hx : x < Config.SM2_p) (hy : y < Config.SM2_p) :
    (Point.toReg (.affine x y)).point = .affine x y := by
  simp only [Point.toReg, AffReg.point, toNat_ofNat_of_lt hx, toNat_ofNat_of_lt hy, fp_of_lt hx,
    fp_of_lt hy]
  rfl

@[simp] theorem toReg_point_infinity : (Point.toReg .infinity).point = .infinity := rfl

/-- A written Jacobian triple reads back, infinity in its canonical form (R38, R231). -/
theorem toReg_jac {j : Jac} (hX : j.X < Config.SM2_p) (hY : j.Y < Config.SM2_p)
    (hZ : j.Z < Config.SM2_p) : j.toReg.jac = if j.Z = 0 then Jac.infinity else j := by
  unfold Jac.toReg
  split
  · rfl
  · simp only [JacReg.jac, toNat_ofNat_of_lt hX, toNat_ofNat_of_lt hY, toNat_ofNat_of_lt hZ,
      fp_of_lt hX, fp_of_lt hY, fp_of_lt hZ]

/-- The coordinates of a Jacobian register read as residues (R38). -/
theorem jac_lt (r : JacReg) :
    r.jac.X < Config.SM2_p ∧ r.jac.Y < Config.SM2_p ∧ r.jac.Z < Config.SM2_p :=
  ⟨fp_lt _, fp_lt _, fp_lt _⟩

end Sys2Proof.Machine
end

