-- ==== Sys2Proof/Laws/PerInstr.lean ====
section
/-! SUPPORT. One lemma per command: the opcode map's row for its command word carries its mnemonic (spec
R104, R105). -/

namespace Sys2Proof.Laws.OpcodeRow

/-- The encoding of a command selects the row of the opcode map that carries its mnemonic (R105). -/
def Statement (i : Instr) : Prop :=
  ∃ row, rowOf (encode i) = some row ∧ row.mnemonic = i.mnemonic

/-- A command whose word has a literal opcode field selects the row with that opcode. -/
theorem of_op {i : Instr} {row : Row} (h : rowOf (encode i) = some row)
    (hm : row.mnemonic = i.mnemonic) : Statement i := ⟨row, h, hm⟩

theorem nop : Statement (.nop) :=
  of_op (by simp only [rowOf, encode, opOf_cmdWord]; rfl) rfl

theorem mov (rd rs1 : RReg) : Statement (.mov rd rs1) :=
  of_op (by simp only [rowOf, encode, opOf_cmdWord]; rfl) rfl

theorem ldc (rd : RReg) (k : RomIndex) : Statement (.ldc rd k) :=
  of_op (by simp only [rowOf, encode, opOf_cmdWord]; rfl) rfl

theorem ldi (rd : RReg) (imm : Imm8) : Statement (.ldi rd imm) :=
  of_op (by simp only [rowOf, encode, opOf_cmdWord]; rfl) rfl

theorem add (rd rs1 rs2 : RReg) : Statement (.add rd rs1 rs2) :=
  of_op (by simp only [rowOf, encode, opOf_cmdWord]; rfl) rfl

theorem sub (rd rs1 rs2 : RReg) : Statement (.sub rd rs1 rs2) :=
  of_op (by simp only [rowOf, encode, opOf_cmdWord]; rfl) rfl

theorem mul (rdp : RPair) (rs1 rs2 : RReg) : Statement (.mul rdp rs1 rs2) :=
  of_op (by simp only [rowOf, encode, opOf_cmdWord]; rfl) rfl

theorem sqr (rdp : RPair) (rs1 : RReg) : Statement (.sqr rdp rs1) :=
  of_op (by simp only [rowOf, encode, opOf_cmdWord]; rfl) rfl

theorem cmp (rs1 rs2 : RReg) : Statement (.cmp rs1 rs2) :=
  of_op (by simp only [rowOf, encode, opOf_cmdWord]; rfl) rfl

theorem bitlen (rd rs1 : RReg) : Statement (.bitlen rd rs1) :=
  of_op (by simp only [rowOf, encode, opOf_cmdWord]; rfl) rfl

theorem getbit (rs1 : RReg) (i : Imm8) : Statement (.getbit rs1 i) :=
  of_op (by simp only [rowOf, encode, opOf_cmdWord]; rfl) rfl

theorem shl1 (rd rs1 : RReg) : Statement (.shl1 rd rs1) :=
  of_op (by simp only [rowOf, encode, opOf_cmdWord]; rfl) rfl

theorem shr1 (rd rs1 : RReg) : Statement (.shr1 rd rs1) :=
  of_op (by simp only [rowOf, encode, opOf_cmdWord]; rfl) rfl

theorem and (rd rs1 rs2 : RReg) : Statement (.and rd rs1 rs2) :=
  of_op (by simp only [rowOf, encode, opOf_cmdWord]; rfl) rfl

theorem madd (rd rs1 rs2 rs3 : RReg) : Statement (.madd rd rs1 rs2 rs3) :=
  of_op (by simp only [rowOf, encode, opOf_cmdWord]; rfl) rfl

theorem msub (rd rs1 rs2 rs3 : RReg) : Statement (.msub rd rs1 rs2 rs3) :=
  of_op (by simp only [rowOf, encode, opOf_cmdWord]; rfl) rfl

theorem mmul (rd rs1 rs2 rs3 : RReg) : Statement (.mmul rd rs1 rs2 rs3) :=
  of_op (by simp only [rowOf, encode, opOf_cmdWord]; rfl) rfl

theorem msqr (rd rs1 rs3 : RReg) : Statement (.msqr rd rs1 rs3) :=
  of_op (by simp only [rowOf, encode, opOf_cmdWord]; rfl) rfl

theorem minv (rd rs1 rs3 : RReg) : Statement (.minv rd rs1 rs3) :=
  of_op (by simp only [rowOf, encode, opOf_cmdWord]; rfl) rfl

theorem mpow (rd rs1 rs2 rs3 : RReg) : Statement (.mpow rd rs1 rs2 rs3) :=
  of_op (by simp only [rowOf, encode, opOf_cmdWord]; rfl) rfl

theorem mred (rd : RReg) (rs1p : RPair) (rs3 : RReg) : Statement (.mred rd rs1p rs3) :=
  of_op (by simp only [rowOf, encode, opOf_cmdWord]; rfl) rfl

theorem fred (rd : RReg) (rs1p : RPair) : Statement (.fred rd rs1p) :=
  of_op (by simp only [rowOf, encode, opOf_cmdWord]; rfl) rfl

theorem fadd (rd rs1 rs2 : RReg) : Statement (.fadd rd rs1 rs2) :=
  of_op (by simp only [rowOf, encode, opOf_cmdWord]; rfl) rfl

theorem fsub (rd rs1 rs2 : RReg) : Statement (.fsub rd rs1 rs2) :=
  of_op (by simp only [rowOf, encode, opOf_cmdWord]; rfl) rfl

theorem fmul (rd rs1 rs2 : RReg) : Statement (.fmul rd rs1 rs2) :=
  of_op (by simp only [rowOf, encode, opOf_cmdWord]; rfl) rfl

theorem fsqr (rd rs1 : RReg) : Statement (.fsqr rd rs1) :=
  of_op (by simp only [rowOf, encode, opOf_cmdWord]; rfl) rfl

theorem fneg (rd rs1 : RReg) : Statement (.fneg rd rs1) :=
  of_op (by simp only [rowOf, encode, opOf_cmdWord]; rfl) rfl

theorem finv (rd rs1 : RReg) : Statement (.finv rd rs1) :=
  of_op (by simp only [rowOf, encode, opOf_cmdWord]; rfl) rfl

theorem fnorm (rd rs1 : RReg) : Statement (.fnorm rd rs1) :=
  of_op (by simp only [rowOf, encode, opOf_cmdWord]; rfl) rfl

theorem pld (pd : PReg) (rs1 rs2 : RReg) : Statement (.pld pd rs1 rs2) :=
  of_op (by simp only [rowOf, encode, opOf_cmdWord]; rfl) rfl

theorem pst (rdp : RPair) (ps1 : PReg) : Statement (.pst rdp ps1) :=
  of_op (by simp only [rowOf, encode, opOf_cmdWord]; rfl) rfl

theorem pinf (pd : PReg) : Statement (.pinf pd) :=
  of_op (by simp only [rowOf, encode, opOf_cmdWord]; rfl) rfl

theorem pldg (pd : PReg) : Statement (.pldg pd) :=
  of_op (by simp only [rowOf, encode, opOf_cmdWord]; rfl) rfl

theorem pchk (ps1 : PReg) : Statement (.pchk ps1) :=
  of_op (by simp only [rowOf, encode, opOf_cmdWord]; rfl) rfl

theorem pneg (pd ps1 : PReg) : Statement (.pneg pd ps1) :=
  of_op (by simp only [rowOf, encode, opOf_cmdWord]; rfl) rfl

theorem padd (pd ps1 ps2 : PReg) : Statement (.padd pd ps1 ps2) :=
  of_op (by simp only [rowOf, encode, opOf_cmdWord]; rfl) rfl

theorem pdbl (pd ps1 : PReg) : Statement (.pdbl pd ps1) :=
  of_op (by simp only [rowOf, encode, opOf_cmdWord]; rfl) rfl

theorem pmul (pd ps1 : PReg) (rs2 : RReg) : Statement (.pmul pd ps1 rs2) :=
  of_op (by simp only [rowOf, encode, opOf_cmdWord]; rfl) rfl

theorem peq (ps1 ps2 : PReg) : Statement (.peq ps1 ps2) :=
  of_op (by simp only [rowOf, encode, opOf_cmdWord]; rfl) rfl

theorem jfrom (jd : JReg) (ps1 : PReg) : Statement (.jfrom jd ps1) :=
  of_op (by simp only [rowOf, encode, opOf_cmdWord]; rfl) rfl

theorem jtoa (pd : PReg) (js1 : JReg) : Statement (.jtoa pd js1) :=
  of_op (by simp only [rowOf, encode, opOf_cmdWord]; rfl) rfl

theorem jdbl (jd js1 : JReg) : Statement (.jdbl jd js1) :=
  of_op (by simp only [rowOf, encode, opOf_cmdWord]; rfl) rfl

theorem jaddm (jd js1 : JReg) (ps2 : PReg) : Statement (.jaddm jd js1 ps2) :=
  of_op (by simp only [rowOf, encode, opOf_cmdWord]; rfl) rfl

theorem sm3init : Statement (.sm3init) :=
  of_op (by simp only [rowOf, encode, opOf_cmdWord]; rfl) rfl

theorem sm3cf (rs1p : RPair) : Statement (.sm3cf rs1p) :=
  of_op (by simp only [rowOf, encode, opOf_cmdWord]; rfl) rfl

theorem sm3rd (rd : RReg) : Statement (.sm3rd rd) :=
  of_op (by simp only [rowOf, encode, opOf_cmdWord]; rfl) rfl

theorem sm3wr (rs1 : RReg) : Statement (.sm3wr rs1) :=
  of_op (by simp only [rowOf, encode, opOf_cmdWord]; rfl) rfl

theorem sm4key (rs1 : RReg) : Statement (.sm4key rs1) :=
  of_op (by simp only [rowOf, encode, opOf_cmdWord]; rfl) rfl

theorem sm4enc (rd rs1 : RReg) : Statement (.sm4enc rd rs1) :=
  of_op (by simp only [rowOf, encode, opOf_cmdWord]; rfl) rfl

theorem sm4dec (rd rs1 : RReg) : Statement (.sm4dec rd rs1) :=
  of_op (by simp only [rowOf, encode, opOf_cmdWord]; rfl) rfl

theorem sm4t (rd rs1 : RReg) : Statement (.sm4t rd rs1) :=
  of_op (by simp only [rowOf, encode, opOf_cmdWord]; rfl) rfl

theorem sm4tk (rd rs1 : RReg) : Statement (.sm4tk rd rs1) :=
  of_op (by simp only [rowOf, encode, opOf_cmdWord]; rfl) rfl

theorem sm4sb (rd rs1 : RReg) : Statement (.sm4sb rd rs1) :=
  of_op (by simp only [rowOf, encode, opOf_cmdWord]; rfl) rfl

theorem sm4l (rd rs1 : RReg) : Statement (.sm4l rd rs1) :=
  of_op (by simp only [rowOf, encode, opOf_cmdWord]; rfl) rfl

theorem sm4lk (rd rs1 : RReg) : Statement (.sm4lk rd rs1) :=
  of_op (by simp only [rowOf, encode, opOf_cmdWord]; rfl) rfl

end Sys2Proof.Laws.OpcodeRow
end

