-- ==== Sys2Proof/Laws/Step.lean ====
section
/-! SUPPORT. The step by its first event, runs of several steps, and the frame of a read (spec R71, R87). -/

namespace Sys2Proof.Machine

theorem step_nil {s : State} (h : s.events = []) : step s = settle s := by simp [step, h]

theorem step_cons {s : State} {e : Event} {rest : List Event} (h : s.events = e :: rest) :
    step s = react e { s with events := rest } := by simp [step, h]

theorem react_running {s : State} (h : s.inReset = false) (e : Event) : react e s = reactRunning e s := by
  simp [react, h]

theorem react_inReset {s : State} (h : s.inReset = true) (e : Event) : react e s = reactInReset e s := by
  simp [react, h]

/-- The completion of a command in flight that decodes is exec of it (R74). -/
theorem completeInFlight_decoded {s : State} {f : InFlight} {i : Instr} (h : s.inflight = some f)
    (hd : decodeWord f.word = .ok i) : completeInFlight s = exec i s := by
  simp [completeInFlight, h, hd]

/-- The completion of a word that spells no command is ILLEGAL (R113). -/
theorem completeInFlight_illegal {s : State} {f : InFlight} {e : Reject} (h : s.inflight = some f)
    (hd : decodeWord f.word = .error e) : completeInFlight s = .next (s.raised .illegal) := by
  simp [completeInFlight, h, hd, raise]

theorem completeInFlight_none {s : State} (h : s.inflight = none) : completeInFlight s = .next s := by
  simp [completeInFlight, h]

/-- A run of k + 1 steps is a step and a run of k steps. -/
theorem run_succ {s t : State} (h : step s = .next t) (k : Nat) :
    core.run (k + 1) s = core.run k t := by
  have h' : core.step s = .next t := h
  simp only [Host.Core.run, h']

/-- A read changes nothing but the answer and the count of draws (R87). -/
theorem busRead_frame (s : State) (off : BitVec 12) (size : Nat) :
    ∃ (r : Option BusResponse) (n : Nat), s.busRead off size = { s with response := r, draws := n } := by
  unfold State.busRead
  split
  · split <;> exact ⟨_, _, rfl⟩
  · exact ⟨_, _, rfl⟩

end Sys2Proof.Machine
end

