-- ==== Sys2Proof/Laws/Window.lean ====
section
/-! SUPPORT. Lemmas of the register window (spec R76 to R87): what a legal and an illegal access do, the
control registers by offset, and reading a word of a 256-bit register after a word was written. -/

namespace Sys2Proof.Machine

theorem legalAccess_iff (off : BitVec 12) (size : Nat) :
    legalAccess off size = true ↔ size = 32 ∧ off.toNat % 4 = 0 := by simp [legalAccess]

/-- A 32-bit access at a multiple of 4 is legal (R76). -/
theorem legalAccess_word {off : BitVec 12} (h : off.toNat % 4 = 0) : legalAccess off 32 = true :=
  (legalAccess_iff off 32).2 ⟨rfl, h⟩

theorem busWrite_legal {off : BitVec 12} (h : off.toNat % 4 = 0) (s : State) (w : Word) :
    s.busWrite off 32 w = (s.writeWindow (windowAt off.toNat) w).answer true none := by
  simp [State.busWrite, legalAccess_word h]

theorem busWrite_illegal {off : BitVec 12} {size : Nat} (h : legalAccess off size = false) (s : State)
    (w : Word) : s.busWrite off size w = s.answer false none := by simp [State.busWrite, h]

theorem busRead_illegal {off : BitVec 12} {size : Nat} (h : legalAccess off size = false) (s : State) :
    s.busRead off size = s.answer false (some 0) := by simp [State.busRead, h]

/-- A legal read with BUSY = 0 returns the contents of the window and changes nothing (R80, R87). -/
theorem busRead_idle {off : BitVec 12} (h : off.toNat % 4 = 0) {s : State} (hb : s.busy = false) :
    s.busRead off 32 = s.answer true (some (s.windowWord (windowAt off.toNat))) := by
  simp [State.busRead, legalAccess_word h, hb]

theorem busWrite_ctrl (s : State) (w : Word) :
    s.busWrite 4#12 32 w = (s.writeCtrl w).answer true none := busWrite_legal (by decide) s w

theorem busWrite_status (s : State) (w : Word) :
    s.busWrite 8#12 32 w = (s.clearStatus w).answer true none := busWrite_legal (by decide) s w

theorem busWrite_cmd (s : State) (w : Word) :
    s.busWrite 12#12 32 w = (s.submit w).answer true none := busWrite_legal (by decide) s w

theorem busWrite_painf (s : State) (w : Word) :
    s.busWrite 16#12 32 w = (s.writeData .painf w).answer true none := busWrite_legal (by decide) s w

/-- A write to a data register's place in the window goes to `writeData` (R80, R85). -/
theorem writeWindow_data {g : WindowReg} (h : g.isWritableData = true) (s : State) (w : Word) :
    s.writeWindow g w = s.writeData g w := by
  cases g <;> simp_all [State.writeWindow, WindowReg.isWritableData, WindowReg.isData]

/-- The offsets of the writable data registers (R80). -/
theorem windowAt_writable (off : BitVec 12) :
    off.toNat = 0x010 ∨ (0x100 ≤ off.toNat ∧ off.toNat < 0x580) ∨
        (0x600 ≤ off.toNat ∧ off.toNat < 0x620) ↔
      (windowAt off.toNat).isWritableData = true := by
  revert off
  decide +kernel

/-- The word just written reads back (R83, R88). -/
@[simp] theorem getWord_putWord_same (v : W256) (k : Fin 8) (w : Word) :
    getWord (putWord v k w) k = w := by
  apply BitVec.eq_of_getLsbD_eq
  intro i hi
  have hk := k.isLt
  simp only [getWord, putWord, BitVec.getLsbD_extractLsb', BitVec.getLsbD_or, BitVec.getLsbD_and,
    BitVec.getLsbD_not, BitVec.getLsbD_shiftLeft, BitVec.getLsbD_setWidth]
  have h1 : 32 * k.val + i < 256 := by omega
  have h2 : ¬ 32 * k.val + i < 32 * k.val := by omega
  have h3 : 32 * k.val + i - 32 * k.val = i := by omega
  have h4 : (0xFFFFFFFF#256).getLsbD i = true := by
    have : ∀ j : Fin 32, (0xFFFFFFFF#256).getLsbD j.val = true := by decide
    exact this ⟨i, hi⟩
  simp [hi, h1, h2, h3, h4, show i < 256 by omega]

/-- Every other word of the register reads as before (R83). -/
theorem getWord_putWord_other (v : W256) {k j : Fin 8} (h : j ≠ k) (w : Word) :
    getWord (putWord v k w) j = getWord v j := by
  apply BitVec.eq_of_getLsbD_eq
  intro i hi
  have hk := k.isLt
  have hj := j.isLt
  have hne : j.val ≠ k.val := fun e => h (Fin.ext e)
  simp only [getWord, putWord, BitVec.getLsbD_extractLsb', BitVec.getLsbD_or, BitVec.getLsbD_and,
    BitVec.getLsbD_not, BitVec.getLsbD_shiftLeft, BitVec.getLsbD_setWidth]
  have h1 : 32 * j.val + i < 256 := by omega
  by_cases h2 : 32 * j.val + i < 32 * k.val
  · simp [h1, h2]
  · have h3 : ¬ 32 * j.val + i - 32 * k.val < 32 := by omega
    have h4 : (0xFFFFFFFF#256).getLsbD (32 * j.val + i - 32 * k.val) = false := by
      have e : (0xFFFFFFFF#256) = (BitVec.allOnes 32).setWidth 256 := by decide
      rw [e, BitVec.getLsbD_setWidth, BitVec.getLsbD_allOnes]
      simp [h3]
    have h5 : w.getLsbD (32 * j.val + i - 32 * k.val) = false :=
      BitVec.getLsbD_of_ge _ _ (by omega)
    simp [h1, h4, h5]

end Sys2Proof.Machine
end

