-- ==== Sys2Proof/Tests/Slice0.lean ====
section
/-! SUPPORT. The model's own tests: the well-formedness check, decoding of words written out from the
encoding of spec R100 and R105, one step each on vectors of spec 95_test_vectors.md (computed by the spec's
author, not by this model), the bus, and for every statement with hypotheses a state that meets them. -/

namespace Sys2Proof.Tests

-- One theorem at a time: a kernel evaluation for each of many theorems at once needs many threads.
set_option Elab.async false

open Sys2Proof Sys2Proof.Machine

/-! ## Well-formedness: what the check refuses -/

/-- MUL into a pair named by an odd register (R103, R119). -/
theorem test_wf_mul_odd_pair : (Instr.mul 3 1 2).wf = false ∧ (Instr.mul 4 1 2).wf = true := by decide

/-- SQR into an odd pair (R103). -/
theorem test_wf_sqr_odd_pair : (Instr.sqr 15 1).wf = false ∧ (Instr.sqr 14 1).wf = true := by decide

/-- MRED of an odd pair (R103). -/
theorem test_wf_mred_odd_pair : (Instr.mred 0 1 2).wf = false ∧ (Instr.mred 0 2 2).wf = true := by decide

/-- FRED of an odd pair (R103). -/
theorem test_wf_fred_odd_pair : (Instr.fred 0 1).wf = false ∧ (Instr.fred 0 0).wf = true := by decide

/-- PST into an odd pair (R103). -/
theorem test_wf_pst_odd_pair : (Instr.pst 1 0).wf = false ∧ (Instr.pst 2 0).wf = true := by decide

/-- SM3CF of an odd pair (R103). -/
theorem test_wf_sm3cf_odd_pair : (Instr.sm3cf 1).wf = false ∧ (Instr.sm3cf 0).wf = true := by decide

/-! ## Decoding: words put together by hand from IMM | RS3 | RS2 | RS1 | RD | OP (R100, R105) -/

theorem test_decode_moves :
    decodeWord 0x00000000#32 = .ok .nop ∧ decodeWord 0x00005A01#32 = .ok (.mov 10 5) ∧
    decodeWord 0x07000F02#32 = .ok (.ldc 15 7) ∧ decodeWord 0x80000303#32 = .ok (.ldi 3 128) := by
  decide

theorem test_decode_bigint :
    decodeWord 0x00021310#32 = .ok (.add 3 1 2) ∧ decodeWord 0x000EDC11#32 = .ok (.sub 12 13 14) ∧
    decodeWord 0x00021412#32 = .ok (.mul 4 1 2) ∧ decodeWord 0x00007E13#32 = .ok (.sqr 14 7) ∧
    decodeWord 0x00098014#32 = .ok (.cmp 8 9) ∧ decodeWord 0x00006515#32 = .ok (.bitlen 5 6) ∧
    decodeWord 0xFF005016#32 = .ok (.getbit 5 255) ∧ decodeWord 0x00004317#32 = .ok (.shl1 3 4) ∧
    decodeWord 0x00004318#32 = .ok (.shr1 3 4) ∧ decodeWord 0x00021319#32 = .ok (.and 3 1 2) := by
  decide

theorem test_decode_modular :
    decodeWord 0x00F21320#32 = .ok (.madd 3 1 2 15) ∧ decodeWord 0x00432121#32 = .ok (.msub 1 2 3 4) ∧
    decodeWord 0x00432122#32 = .ok (.mmul 1 2 3 4) ∧ decodeWord 0x00402123#32 = .ok (.msqr 1 2 4) ∧
    decodeWord 0x00402124#32 = .ok (.minv 1 2 4) ∧ decodeWord 0x00432125#32 = .ok (.mpow 1 2 3 4) ∧
    decodeWord 0x0040E126#32 = .ok (.mred 1 14 4) := by decide

theorem test_decode_field :
    decodeWord 0x0000E130#32 = .ok (.fred 1 14) ∧ decodeWord 0x00032131#32 = .ok (.fadd 1 2 3) ∧
    decodeWord 0x00032132#32 = .ok (.fsub 1 2 3) ∧ decodeWord 0x00032133#32 = .ok (.fmul 1 2 3) ∧
    decodeWord 0x00002134#32 = .ok (.fsqr 1 2) ∧ decodeWord 0x00002135#32 = .ok (.fneg 1 2) ∧
    decodeWord 0x00002136#32 = .ok (.finv 1 2) ∧ decodeWord 0x00002137#32 = .ok (.fnorm 1 2) := by
  decide

theorem test_decode_points :
    decodeWord 0x000FE340#32 = .ok (.pld 3 14 15) ∧ decodeWord 0x00003E41#32 = .ok (.pst 14 3) ∧
    decodeWord 0x00000242#32 = .ok (.pinf 2) ∧ decodeWord 0x00000343#32 = .ok (.pldg 3) ∧
    decodeWord 0x00001044#32 = .ok (.pchk 1) ∧ decodeWord 0x00000145#32 = .ok (.pneg 1 0) ∧
    decodeWord 0x00010246#32 = .ok (.padd 2 0 1) ∧ decodeWord 0x00000147#32 = .ok (.pdbl 1 0) ∧
    decodeWord 0x000D2348#32 = .ok (.pmul 3 2 13) ∧ decodeWord 0x00021049#32 = .ok (.peq 1 2) ∧
    decodeWord 0x0000134A#32 = .ok (.jfrom 3 1) ∧ decodeWord 0x0000134B#32 = .ok (.jtoa 3 1) ∧
    decodeWord 0x0000134C#32 = .ok (.jdbl 3 1) ∧ decodeWord 0x0002134D#32 = .ok (.jaddm 3 1 2) := by
  decide

theorem test_decode_sm3 :
    decodeWord 0x00000050#32 = .ok .sm3init ∧ decodeWord 0x0000C051#32 = .ok (.sm3cf 12) ∧
    decodeWord 0x00000252#32 = .ok (.sm3rd 2) ∧ decodeWord 0x00003053#32 = .ok (.sm3wr 3) := by decide

theorem test_decode_sm4 :
    decodeWord 0x0000F060#32 = .ok (.sm4key 15) ∧ decodeWord 0x00000161#32 = .ok (.sm4enc 1 0) ∧
    decodeWord 0x00002362#32 = .ok (.sm4dec 3 2) ∧ decodeWord 0x00002363#32 = .ok (.sm4t 3 2) ∧
    decodeWord 0x00002364#32 = .ok (.sm4tk 3 2) ∧ decodeWord 0x00002365#32 = .ok (.sm4sb 3 2) ∧
    decodeWord 0x00002366#32 = .ok (.sm4l 3 2) ∧ decodeWord 0x00002367#32 = .ok (.sm4lk 3 2) := by decide

/-- One illegal word for each cause R110 lists, and NOP with another bit set (R108). -/
theorem test_decode_illegal :
    decodeWord 0x00000004#32 = .error .reservedOp ∧ decodeWord 0x000000FF#32 = .error .reservedOp ∧
    decodeWord 0x00021312#32 = .error .oddPair ∧ decodeWord 0x00000442#32 = .error .pointAboveThree ∧
    decodeWord 0x08000002#32 = .error .romIndexAboveSeven ∧
    decodeWord 0x01021310#32 = .error .unusedFieldNonzero ∧
    decodeWord 0x00000100#32 = .error .unusedFieldNonzero ∧ decode [0x10, 0x13, 0x02] = .error .truncated := by
  decide

/-- A command word in its byte lanes, lane 0 first, and the rest of the bytes (R77, R100). -/
theorem test_decode_bytes : decode [0x10, 0x13, 0x02, 0x00, 0xAA] = .ok (.add 3 1 2, [0xAA]) := by decide

theorem test_decode_table_word : decodeTableWord 32 0x00021310 = some (.add 3 1 2) := by decide

/-- The encoder spells the words of R115 and R119. -/
theorem test_encode_words :
    encode (.madd 3 1 2 15) = 0x00F21320#32 ∧ encode (.getbit 5 255) = 0xFF005016#32 ∧
    encode (.pmul 3 0 4) = 0x00040348#32 ∧ encode (.ldc 0 3) = 0x03000002#32 := by decide

/-- The assembler syntax of R115, and the words of the pseudo-instructions (R116). -/
theorem test_assembly :
    (Instr.madd 3 1 2 15).assembly = "MADD r3, r1, r2, r15" ∧ Instr.nop.assembly = "NOP" ∧
    (Instr.padd 2 0 1).assembly = "PADD pa2, pa0, pa1" ∧ (Instr.getbit 5 255).assembly = "GETBIT r5, #255" ∧
    encode (.clr 4) = 0x00000403#32 ∧ encode (.one 4) = 0x01000403#32 ∧
    encode (.ldp 0) = 0x00000002#32 ∧ encode (.ldn 0) = 0x03000002#32 ∧
    encode (.tst 5 255) = 0xFF005016#32 := by decide +kernel

/-! ## Vectors: one step each -/

/-- The next step, running the command word w, ends with success and leaves the registers of `e s`. -/
abbrev EndsWith (w : Nat) (s : State) (e : State → State) : Prop :=
  (match step (s.withFetchWord 32 w) with
   | .next t => decide (t.data = (e s).data) && !t.busy && t.done && !t.err && t.errcode == 0
   | .fault _ => false
   | .refused _ => false) = true

/-- The next step, running the command word w, ends with success in a state that passes the check. -/
abbrev Satisfies (w : Nat) (s : State) (p : State → Bool) : Prop :=
  (match step (s.withFetchWord 32 w) with
   | .next t => p t && !t.busy && t.done && !t.err
   | .fault _ => false
   | .refused _ => false) = true

/-- The next step, running the command word w, ends with the error code and leaves the registers. -/
abbrev EndsWithError (w : Nat) (code : BitVec 4) (s : State) : Prop :=
  (match step (s.withFetchWord 32 w) with
   | .next t => decide (t.data = s.data) && !t.busy && t.done && t.err && t.errcode == code
   | .fault _ => false
   | .refused _ => false) = true

/-- V101: NOP (R130). -/
theorem test_nop_V101 : EndsWith 0x00000000
    State.reset
    (fun s => s) := by
  decide +kernel

/-- V102: MOV r2, r1 (R131). -/
theorem test_mov_V102 : EndsWith 0x00001201
    (State.reset.writeR 1 0x5)
    (fun s => (s.writeR 2 0x5)) := by
  decide +kernel

/-- V106: LDC r0, #3 (R132). -/
theorem test_ldc_V106 : EndsWith 0x03000002
    State.reset
    (fun s => (s.writeR 0 0xFFFFFFFEFFFFFFFFFFFFFFFFFFFFFFFF7203DF6B21C6052B53BBF40939D54123)) := by
  decide +kernel

/-- V109: LDC r0, #6 (R132). -/
theorem test_ldc_V109 : EndsWith 0x06000002
    State.reset
    (fun s => (s.writeR 0 0xFFFFFFFEFFFFFFFFFFFFFFFFFFFFFFFFFFFFFFFF00000000FFFFFFFFFFFFFFFD)) := by
  decide +kernel

/-- V111: LDI r0, #0xFF (R133: zero-extended). -/
theorem test_ldi_V111 : EndsWith 0xFF000003
    State.reset
    (fun s => (s.writeR 0 0xFF)) := by
  decide +kernel

/-- V115: ADD r3, r1, r2 (R150 carry-out). -/
theorem test_add_V115 : EndsWith 0x00021310
    ((State.reset.writeR 1 0xFFFFFFFFFFFFFFFFFFFFFFFFFFFFFFFFFFFFFFFFFFFFFFFFFFFFFFFFFFFFFFFF).writeR 2 0x1)
    (fun s => (((s.writeR 3 0x0).setC true).setZ true)) := by
  decide +kernel

/-- V116: ADD r3, r1, r2 (R161 carry across limb 0). -/
theorem test_add_V116 : EndsWith 0x00021310
    ((State.reset.writeR 1 0xFFFFFFFFFFFFFFFF).writeR 2 0x1)
    (fun s => (((s.writeR 3 0x10000000000000000).setC false).setZ false)) := by
  decide +kernel

/-- V119: SUB r3, r1, r2 (R151 borrow). -/
theorem test_sub_V119 : EndsWith 0x00021311
    ((State.reset.writeR 1 0x0).writeR 2 0x1)
    (fun s => (((s.writeR 3 0xFFFFFFFFFFFFFFFFFFFFFFFFFFFFFFFFFFFFFFFFFFFFFFFFFFFFFFFFFFFFFFFF).setC true).setZ false)) := by
  decide +kernel

/-- V120: SUB r3, r1, r2 (R151 equal). -/
theorem test_sub_V120 : EndsWith 0x00021311
    ((State.reset.writeR 1 0x7).writeR 2 0x7)
    (fun s => (((s.writeR 3 0x0).setC false).setZ true)) := by
  decide +kernel

/-- V122: MUL r4, r1, r2 (R152 maximum). -/
theorem test_mul_V122 : EndsWith 0x00021412
    ((State.reset.writeR 1 0xFFFFFFFFFFFFFFFFFFFFFFFFFFFFFFFFFFFFFFFFFFFFFFFFFFFFFFFFFFFFFFFF).writeR 2 0xFFFFFFFFFFFFFFFFFFFFFFFFFFFFFFFFFFFFFFFFFFFFFFFFFFFFFFFFFFFFFFFF)
    (fun s => (((s.writeR 4 0x1).writeR 5 0xFFFFFFFFFFFFFFFFFFFFFFFFFFFFFFFFFFFFFFFFFFFFFFFFFFFFFFFFFFFFFFFE).setZ false)) := by
  decide +kernel

/-- V123: MUL r0, r0, r1 (R152 zero, source overwritten). -/
theorem test_mul_V123 : EndsWith 0x00010012
    ((State.reset.writeR 0 0x0).writeR 1 0xFFFFFFFFFFFFFFFFFFFFFFFFFFFFFFFFFFFFFFFFFFFFFFFFFFFFFFFFFFFFFFFF)
    (fun s => (((s.writeR 0 0x0).writeR 1 0x0).setZ true)) := by
  decide +kernel

/-- V124: SQR r6, r1 (R153). -/
theorem test_sqr_V124 : EndsWith 0x00001613
    (State.reset.writeR 1 0xFFFFFFFFFFFFFFFFFFFFFFFFFFFFFFFFFFFFFFFFFFFFFFFFFFFFFFFFFFFFFFFF)
    (fun s => (((s.writeR 6 0x1).writeR 7 0xFFFFFFFFFFFFFFFFFFFFFFFFFFFFFFFFFFFFFFFFFFFFFFFFFFFFFFFFFFFFFFFE).setZ false)) := by
  decide +kernel

/-- V126: CMP r1, r2 (R154 less). -/
theorem test_cmp_V126 : EndsWith 0x00021014
    ((State.reset.writeR 1 0x3).writeR 2 0x5)
    (fun s => ((s.setC true).setZ false)) := by
  decide +kernel

/-- V128: CMP r1, r2 (R154 equal). -/
theorem test_cmp_V128 : EndsWith 0x00021014
    ((State.reset.writeR 1 0x5).writeR 2 0x5)
    (fun s => ((s.setC false).setZ true)) := by
  decide +kernel

/-- V129: BITLEN r2, r1 (R155). -/
theorem test_bitlen_V129 : EndsWith 0x00001215
    (State.reset.writeR 1 0x0)
    (fun s => ((s.writeR 2 0x0).setZ true)) := by
  decide +kernel

/-- V132: BITLEN r2, r1 (R155). -/
theorem test_bitlen_V132 : EndsWith 0x00001215
    (State.reset.writeR 1 0x8000000000000000000000000000000000000000000000000000000000000000)
    (fun s => ((s.writeR 2 0x100).setZ false)) := by
  decide +kernel

/-- V134: GETBIT r5, #255 (R156). -/
theorem test_getbit_V134 : EndsWith 0xFF005016
    (State.reset.writeR 5 0x8000000000000000000000000000000000000000000000000000000000000000)
    (fun s => (s.setT true)) := by
  decide +kernel

/-- V135: GETBIT r5, #0 (R156). -/
theorem test_getbit_V135 : EndsWith 0x00005016
    (State.reset.writeR 5 0x8000000000000000000000000000000000000000000000000000000000000000)
    (fun s => (s.setT false)) := by
  decide +kernel

/-- V136: SHL1 r1, r1 (R157). -/
theorem test_shl1_V136 : EndsWith 0x00001117
    (State.reset.writeR 1 0x8000000000000000000000000000000000000000000000000000000000000001)
    (fun s => (((s.writeR 1 0x2).setC true).setZ false)) := by
  decide +kernel

/-- V139: SHR1 r2, r1 (R158 to zero). -/
theorem test_shr1_V139 : EndsWith 0x00001218
    (State.reset.writeR 1 0x1)
    (fun s => (((s.writeR 2 0x0).setC true).setZ true)) := by
  decide +kernel

/-- V138: SHR1 r2, r1 (R158). -/
theorem test_shr1_V138 : EndsWith 0x00001218
    (State.reset.writeR 1 0xFFFFFFFFFFFFFFFFFFFFFFFFFFFFFFFFFFFFFFFFFFFFFFFFFFFFFFFFFFFFFFFF)
    (fun s => (((s.writeR 2 0x7FFFFFFFFFFFFFFFFFFFFFFFFFFFFFFFFFFFFFFFFFFFFFFFFFFFFFFFFFFFFFFF).setC true).setZ false)) := by
  decide +kernel

/-- V140: AND r3, r1, r2 (R159). -/
theorem test_and_V140 : EndsWith 0x00021319
    ((State.reset.writeR 1 0xF0F0).writeR 2 0xFF0)
    (fun s => ((s.writeR 3 0xF0).setZ false)) := by
  decide +kernel

/-- V143: MADD r3, r1, r2, r15 (R181 exact 257-bit sum). -/
theorem test_madd_V143 : EndsWith 0x00F21320
    (((State.reset.writeR 1 0xFFFFFFFFFFFFFFFFFFFFFFFFFFFFFFFFFFFFFFFFFFFFFFFFFFFFFFFFFFFFFFFF).writeR 2 0x1).writeR 15 0xFFFFFFFEFFFFFFFFFFFFFFFFFFFFFFFF7203DF6B21C6052B53BBF40939D54123)
    (fun s => ((s.writeR 3 0x10000000000000000000000008DFC2094DE39FAD4AC440BF6C62ABEDD).setZ false)) := by
  decide +kernel

/-- V145: MADD r3, r1, r2, r15 (R180 m = 0). -/
theorem test_madd_V145 : EndsWithError 0x00F21320 3
    (((State.reset.writeR 1 0x1).writeR 2 0x2).writeR 15 0x0) := by
  decide +kernel

/-- V146: MSUB r3, r1, r2, r15 (R182). -/
theorem test_msub_V146 : EndsWith 0x00F21321
    (((State.reset.writeR 1 0x0).writeR 2 0x1).writeR 15 0xFFFFFFFEFFFFFFFFFFFFFFFFFFFFFFFF7203DF6B21C6052B53BBF40939D54123)
    (fun s => ((s.writeR 3 0xFFFFFFFEFFFFFFFFFFFFFFFFFFFFFFFF7203DF6B21C6052B53BBF40939D54122).setZ false)) := by
  decide +kernel

/-- V147: MSUB r3, r1, r2, r15 (R182 negative difference). -/
theorem test_msub_V147 : EndsWith 0x00F21321
    (((State.reset.writeR 1 0x3).writeR 2 0xA).writeR 15 0x7)
    (fun s => ((s.writeR 3 0x0).setZ true)) := by
  decide +kernel

/-- V149: MMUL r3, r1, r2, r15 (R183 unreduced operands). -/
theorem test_mmul_V149 : EndsWith 0x00F21322
    (((State.reset.writeR 1 0xFFFFFFFFFFFFFFFFFFFFFFFFFFFFFFFFFFFFFFFFFFFFFFFFFFFFFFFFFFFFFFFF).writeR 2 0xFFFFFFFFFFFFFFFFFFFFFFFFFFFFFFFFFFFFFFFFFFFFFFFFFFFFFFFFFFFFFFFF).writeR 15 0xFFFFFFFEFFFFFFFFFFFFFFFFFFFFFFFF7203DF6B21C6052B53BBF40939D54123)
    (fun s => ((s.writeR 3 0x1EB5E410A22B3D3B620FC84C3AFFE0D3186C0F2121FBAD5137897AC1EFBBD167).setZ false)) := by
  decide +kernel

/-- V150: MSQR r3, r1, r15 (R184). -/
theorem test_msqr_V150 : EndsWith 0x00F01323
    ((State.reset.writeR 1 0x5).writeR 15 0x7)
    (fun s => ((s.writeR 3 0x4).setZ false)) := by
  decide +kernel

/-- V152: MINV r3, r1, r15 (R185 composite m). -/
theorem test_minv_V152 : EndsWith 0x00F01324
    ((State.reset.writeR 1 0x3).writeR 15 0xF)
    (fun s => ((s.writeR 3 0x3).setZ false)) := by
  decide +kernel

/-- V157: MINV r3, r1, r15 (R408 DIV_ZERO before INV_ZERO). -/
theorem test_minv_V157 : EndsWithError 0x00F01324 3
    ((State.reset.writeR 1 0x0).writeR 15 0x0) := by
  decide +kernel

/-- V159: MPOW r3, r1, r2, r15 (R186 exponent truncation). -/
theorem test_mpow_V159 : EndsWith 0x00F21325
    (((State.reset.writeR 1 0x2).writeR 2 0x8).writeR 15 0x7)
    (fun s => ((s.writeR 3 0x1).setZ false)) := by
  decide +kernel

/-- V161: MPOW r3, r1, r2, r15 (R186 m = 1). -/
theorem test_mpow_V161 : EndsWith 0x00F21325
    (((State.reset.writeR 1 0x5).writeR 2 0x3).writeR 15 0x1)
    (fun s => ((s.writeR 3 0x0).setZ true)) := by
  decide +kernel

/-- V163: MRED r3, r0, r15 (R187). -/
theorem test_mred_V163 : EndsWith 0x00F00326
    (((State.reset.writeR 0 0xFFFFFFFFFFFFFFFFFFFFFFFFFFFFFFFFFFFFFFFFFFFFFFFFFFFFFFFFFFFFFFFF).writeR 1 0xFFFFFFFFFFFFFFFFFFFFFFFFFFFFFFFFFFFFFFFFFFFFFFFFFFFFFFFFFFFFFFFF).writeR 15 0xFFFFFFFEFFFFFFFFFFFFFFFFFFFFFFFF7203DF6B21C6052B53BBF40939D54123)
    (fun s => ((s.writeR 3 0x1EB5E412A22B3D3B620FC84C3AFFE0D43464504ADE6FA2FA901192AF7C114F1F).setZ false)) := by
  decide +kernel

/-- V165: MRED r3, r0, r15 (R180). -/
theorem test_mred_V165 : EndsWithError 0x00F00326 3
    (((State.reset.writeR 0 0x5).writeR 1 0x0).writeR 15 0x0) := by
  decide +kernel

/-- V167: FRED r3, r0 (R201 above p², traced in section 3). -/
theorem test_fred_V167 : EndsWith 0x00000330
    ((State.reset.writeR 0 0xFFFFFFFFFFFFFFFFFFFFFFFFFFFFFFFFFFFFFFFFFFFFFFFFFFFFFFFFFFFFFFFF).writeR 1 0xFFFFFFFFFFFFFFFFFFFFFFFFFFFFFFFFFFFFFFFFFFFFFFFFFFFFFFFFFFFFFFFF)
    (fun s => ((s.writeR 3 0x400000002000000010000000100000002FFFFFFFF0000000200000002).setZ false)) := by
  decide +kernel

/-- V168: FRED r3, r0 (R201 p² gives 0). -/
theorem test_fred_V168 : EndsWith 0x00000330
    ((State.reset.writeR 0 0x200000000FFFFFFFE0000000100000001FFFFFFFE0000000000000001).writeR 1 0xFFFFFFFE00000000FFFFFFFFFFFFFFFFFFFFFFFE00000003FFFFFFFDFFFFFFFE)
    (fun s => ((s.writeR 3 0x0).setZ true)) := by
  decide +kernel

/-- V171: FADD r3, r1, r2 (R202 unreduced). -/
theorem test_fadd_V171 : EndsWith 0x00021331
    ((State.reset.writeR 1 0xFFFFFFFFFFFFFFFFFFFFFFFFFFFFFFFFFFFFFFFFFFFFFFFFFFFFFFFFFFFFFFFF).writeR 2 0xFFFFFFFFFFFFFFFFFFFFFFFFFFFFFFFFFFFFFFFFFFFFFFFFFFFFFFFFFFFFFFFF)
    (fun s => ((s.writeR 3 0x200000000000000000000000000000001FFFFFFFE0000000000000000).setZ false)) := by
  decide +kernel

/-- V172: FSUB r3, r1, r2 (R203). -/
theorem test_fsub_V172 : EndsWith 0x00021332
    ((State.reset.writeR 1 0x0).writeR 2 0x1)
    (fun s => ((s.writeR 3 0xFFFFFFFEFFFFFFFFFFFFFFFFFFFFFFFFFFFFFFFF00000000FFFFFFFFFFFFFFFE).setZ false)) := by
  decide +kernel

/-- V174: FMUL r3, r1, r2 (R204). -/
theorem test_fmul_V174 : EndsWith 0x00021333
    ((State.reset.writeR 1 0xFFFFFFFEFFFFFFFFFFFFFFFFFFFFFFFFFFFFFFFF00000000FFFFFFFFFFFFFFFE).writeR 2 0xFFFFFFFEFFFFFFFFFFFFFFFFFFFFFFFFFFFFFFFF00000000FFFFFFFFFFFFFFFE)
    (fun s => ((s.writeR 3 0x1).setZ false)) := by
  decide +kernel

/-- V175: FSQR r3, r1 (R205). -/
theorem test_fsqr_V175 : EndsWith 0x00001334
    (State.reset.writeR 1 0x32C4AE2C1F1981195F9904466A39C9948FE30BBFF2660BE1715A4589334C74C7)
    (fun s => ((s.writeR 3 0xF4E2CCA0BCFD67FBA8531EEBFF519E4CB3D47F9FE8C5EFF5151F4C497EC99FBF).setZ false)) := by
  decide +kernel

/-- V177: FNEG r3, r1 (R206 p stands for 0). -/
theorem test_fneg_V177 : EndsWith 0x00001335
    (State.reset.writeR 1 0xFFFFFFFEFFFFFFFFFFFFFFFFFFFFFFFFFFFFFFFF00000000FFFFFFFFFFFFFFFF)
    (fun s => ((s.writeR 3 0x0).setZ true)) := by
  decide +kernel

/-- V179: FINV r3, r1 (R207). -/
theorem test_finv_V179 : EndsWith 0x00001336
    (State.reset.writeR 1 0x2)
    (fun s => ((s.writeR 3 0x7FFFFFFF7FFFFFFFFFFFFFFFFFFFFFFFFFFFFFFF800000008000000000000000).setZ false)) := by
  decide +kernel

/-- V181: FINV r3, r1 (R207 INV_ZERO). -/
theorem test_finv_V181 : EndsWithError 0x00001336 4
    (State.reset.writeR 1 0xFFFFFFFEFFFFFFFFFFFFFFFFFFFFFFFFFFFFFFFF00000000FFFFFFFFFFFFFFFF) := by
  decide +kernel

/-- V182: FNORM r3, r1 (R208). -/
theorem test_fnorm_V182 : EndsWith 0x00001337
    (State.reset.writeR 1 0xFFFFFFFFFFFFFFFFFFFFFFFFFFFFFFFFFFFFFFFFFFFFFFFFFFFFFFFFFFFFFFFF)
    (fun s => ((s.writeR 3 0x100000000000000000000000000000000FFFFFFFF0000000000000000).setZ false)) := by
  decide +kernel

/-- V183: FNORM r3, r1 (R208). -/
theorem test_fnorm_V183 : EndsWith 0x00001337
    (State.reset.writeR 1 0xFFFFFFFEFFFFFFFFFFFFFFFFFFFFFFFFFFFFFFFF00000000FFFFFFFFFFFFFFFF)
    (fun s => ((s.writeR 3 0x0).setZ true)) := by
  decide +kernel

/-- V184: PLD pa1, r0, r1 (R236). -/
theorem test_pld_V184 : EndsWith 0x00010140
    ((State.reset.writeR 0 0x32C4AE2C1F1981195F9904466A39C9948FE30BBFF2660BE1715A4589334C74C7).writeR 1 0xBC3736A2F4F6779C59BDCEE36B692153D0A9877CC62A474002DF32E52139F0A0)
    (fun s => (s.setPA 1 ⟨0x32C4AE2C1F1981195F9904466A39C9948FE30BBFF2660BE1715A4589334C74C7, 0xBC3736A2F4F6779C59BDCEE36B692153D0A9877CC62A474002DF32E52139F0A0, false⟩)) := by
  decide +kernel

/-- V186: PST r2, pa0 (R237). -/
theorem test_pst_V186 : EndsWith 0x00000241
    (State.reset.setPA 0 ⟨0x32C4AE2C1F1981195F9904466A39C9948FE30BBFF2660BE1715A4589334C74C7, 0xBC3736A2F4F6779C59BDCEE36B692153D0A9877CC62A474002DF32E52139F0A0, false⟩)
    (fun s => (((s.writeR 2 0x32C4AE2C1F1981195F9904466A39C9948FE30BBFF2660BE1715A4589334C74C7).writeR 3 0xBC3736A2F4F6779C59BDCEE36B692153D0A9877CC62A474002DF32E52139F0A0).setT false)) := by
  decide +kernel

/-- V187: PST r2, pa0 (R237 of O (reset PA0)). -/
theorem test_pst_V187 : EndsWith 0x00000241
    State.reset
    (fun s => (((s.writeR 2 0x0).writeR 3 0x0).setT true)) := by
  decide +kernel

/-- V188: PINF pa2 (R238). -/
theorem test_pinf_V188 : EndsWith 0x00000242
    (State.reset.setPA 2 ⟨0x32C4AE2C1F1981195F9904466A39C9948FE30BBFF2660BE1715A4589334C74C7, 0xBC3736A2F4F6779C59BDCEE36B692153D0A9877CC62A474002DF32E52139F0A0, false⟩)
    (fun s => (s.setPA 2 ⟨0, 0, true⟩)) := by
  decide +kernel

/-- V189: PLDG pa0 (R239). -/
theorem test_pldg_V189 : EndsWith 0x00000043
    State.reset
    (fun s => (s.setPA 0 ⟨0x32C4AE2C1F1981195F9904466A39C9948FE30BBFF2660BE1715A4589334C74C7, 0xBC3736A2F4F6779C59BDCEE36B692153D0A9877CC62A474002DF32E52139F0A0, false⟩)) := by
  decide +kernel

/-- V191: PCHK pa1 (R240 off curve). -/
theorem test_pchk_V191 : EndsWith 0x00001044
    (State.reset.setPA 1 ⟨0x32C4AE2C1F1981195F9904466A39C9948FE30BBFF2660BE1715A4589334C74C7, 0xBC3736A2F4F6779C59BDCEE36B692153D0A9877CC62A474002DF32E52139F0A1, false⟩)
    (fun s => (s.setT false)) := by
  decide +kernel

/-- V193: PCHK pa1 (R240 O). -/
theorem test_pchk_V193 : EndsWith 0x00001044
    State.reset
    (fun s => (s.setT true)) := by
  decide +kernel

/-- V194: PNEG pa1, pa0 (R241). -/
theorem test_pneg_V194 : EndsWith 0x00000145
    (State.reset.setPA 0 ⟨0x32C4AE2C1F1981195F9904466A39C9948FE30BBFF2660BE1715A4589334C74C7, 0xBC3736A2F4F6779C59BDCEE36B692153D0A9877CC62A474002DF32E52139F0A0, false⟩)
    (fun s => ((s.setPA 1 ⟨0x32C4AE2C1F1981195F9904466A39C9948FE30BBFF2660BE1715A4589334C74C7, 0x43C8C95C0B098863A642311C9496DEAC2F56788239D5B8C0FD20CD1ADEC60F5F, false⟩).setT false)) := by
  decide +kernel

/-- V195: PNEG pa1, pa0 (R241 O). -/
theorem test_pneg_V195 : EndsWith 0x00000145
    State.reset
    (fun s => ((s.setPA 1 ⟨0, 0, true⟩).setT true)) := by
  decide +kernel

/-- V198: PADD pa2, pa1, pa0 (R242). -/
theorem test_padd_V198 : EndsWith 0x00001246
    ((State.reset.setPA 0 ⟨0x32C4AE2C1F1981195F9904466A39C9948FE30BBFF2660BE1715A4589334C74C7, 0xBC3736A2F4F6779C59BDCEE36B692153D0A9877CC62A474002DF32E52139F0A0, false⟩).setPA 1 ⟨0x56CEFD60D7C87C000D58EF57FA73BA4D9C0DFA08C08A7331495C2E1DA3F2BD52, 0x31B7E7E6CC8189F668535CE0F8EAF1BD6DE84C182F6C8E716F780D3A970A23C3, false⟩)
    (fun s => ((s.setPA 2 ⟨0xA97F7CD4B3C993B4BE2DAA8CDB41E24CA13F6BD945302244E26918F1D0509EBF, 0x530B5DD88C688EF5CCC5CEC08A72150F7C400EE5CD045292AAACDD037458F6E6, false⟩).setT false)) := by
  decide +kernel

/-- V196: PADD pa2, pa0, pa1 (R242). -/
theorem test_padd_V196 : EndsWith 0x00010246
    ((State.reset.setPA 0 ⟨0x32C4AE2C1F1981195F9904466A39C9948FE30BBFF2660BE1715A4589334C74C7, 0xBC3736A2F4F6779C59BDCEE36B692153D0A9877CC62A474002DF32E52139F0A0, false⟩).setPA 1 ⟨0x32C4AE2C1F1981195F9904466A39C9948FE30BBFF2660BE1715A4589334C74C7, 0x43C8C95C0B098863A642311C9496DEAC2F56788239D5B8C0FD20CD1ADEC60F5F, false⟩)
    (fun s => ((s.setPA 2 ⟨0, 0, true⟩).setT true)) := by
  decide +kernel

/-- V200: PDBL pa1, pa0 (R243). -/
theorem test_pdbl_V200 : EndsWith 0x00000147
    (State.reset.setPA 0 ⟨0x32C4AE2C1F1981195F9904466A39C9948FE30BBFF2660BE1715A4589334C74C7, 0xBC3736A2F4F6779C59BDCEE36B692153D0A9877CC62A474002DF32E52139F0A0, false⟩)
    (fun s => ((s.setPA 1 ⟨0x56CEFD60D7C87C000D58EF57FA73BA4D9C0DFA08C08A7331495C2E1DA3F2BD52, 0x31B7E7E6CC8189F668535CE0F8EAF1BD6DE84C182F6C8E716F780D3A970A23C3, false⟩).setT false)) := by
  decide +kernel

/-- V201: PDBL pa1, pa0 (R243 y = 0 (off curve)). -/
theorem test_pdbl_V201 : EndsWith 0x00000147
    (State.reset.setPA 0 ⟨0x5, 0x0, false⟩)
    (fun s => ((s.setPA 1 ⟨0, 0, true⟩).setT true)) := by
  decide +kernel

/-- V205: PMUL pa3, pa0, r4 (R244 k = 0x3). -/
theorem test_pmul_V205 : EndsWith 0x00040348
    ((State.reset.setPA 0 ⟨0x32C4AE2C1F1981195F9904466A39C9948FE30BBFF2660BE1715A4589334C74C7, 0xBC3736A2F4F6779C59BDCEE36B692153D0A9877CC62A474002DF32E52139F0A0, false⟩).writeR 4 0x3)
    (fun s => ((s.setPA 3 ⟨0xA97F7CD4B3C993B4BE2DAA8CDB41E24CA13F6BD945302244E26918F1D0509EBF, 0x530B5DD88C688EF5CCC5CEC08A72150F7C400EE5CD045292AAACDD037458F6E6, false⟩).setT false)) := by
  decide +kernel

/-- V208: PMUL pa3, pa0, r4 (R244 k = n−1). -/
theorem test_pmul_V208 : EndsWith 0x00040348
    ((State.reset.setPA 0 ⟨0x32C4AE2C1F1981195F9904466A39C9948FE30BBFF2660BE1715A4589334C74C7, 0xBC3736A2F4F6779C59BDCEE36B692153D0A9877CC62A474002DF32E52139F0A0, false⟩).writeR 4 0xFFFFFFFEFFFFFFFFFFFFFFFFFFFFFFFF7203DF6B21C6052B53BBF40939D54122)
    (fun s => ((s.setPA 3 ⟨0x32C4AE2C1F1981195F9904466A39C9948FE30BBFF2660BE1715A4589334C74C7, 0x43C8C95C0B098863A642311C9496DEAC2F56788239D5B8C0FD20CD1ADEC60F5F, false⟩).setT false)) := by
  decide +kernel

/-- V212: PEQ pa1, pa2 (R245). -/
theorem test_peq_V212 : EndsWith 0x00021049
    ((State.reset.setPA 1 ⟨0x56CEFD60D7C87C000D58EF57FA73BA4D9C0DFA08C08A7331495C2E1DA3F2BD52, 0x31B7E7E6CC8189F668535CE0F8EAF1BD6DE84C182F6C8E716F780D3A970A23C3, false⟩).setPA 2 ⟨0x56CEFD60D7C87C000D58EF57FA73BA4D9C0DFA08C08A7331495C2E1DA3F2BD52, 0x31B7E7E6CC8189F668535CE0F8EAF1BD6DE84C182F6C8E716F780D3A970A23C3, false⟩)
    (fun s => (s.setT true)) := by
  decide +kernel

/-- V214: PEQ pa1, pa2 (R245 one O). -/
theorem test_peq_V214 : EndsWith 0x00021049
    (State.reset.setPA 1 ⟨0x32C4AE2C1F1981195F9904466A39C9948FE30BBFF2660BE1715A4589334C74C7, 0xBC3736A2F4F6779C59BDCEE36B692153D0A9877CC62A474002DF32E52139F0A0, false⟩)
    (fun s => (s.setT false)) := by
  decide +kernel

/-- V216: JFROM pj0, pa0 (R246). -/
theorem test_jfrom_V216 : EndsWith 0x0000004A
    (State.reset.setPA 0 ⟨0x32C4AE2C1F1981195F9904466A39C9948FE30BBFF2660BE1715A4589334C74C7, 0xBC3736A2F4F6779C59BDCEE36B692153D0A9877CC62A474002DF32E52139F0A0, false⟩)
    (fun s => ((s.setPJ 0 ⟨0x32C4AE2C1F1981195F9904466A39C9948FE30BBFF2660BE1715A4589334C74C7, 0xBC3736A2F4F6779C59BDCEE36B692153D0A9877CC62A474002DF32E52139F0A0, 0x1⟩).setT false)) := by
  decide +kernel

/-- V217: JFROM pj0, pa0 (R246 O). -/
theorem test_jfrom_V217 : EndsWith 0x0000004A
    State.reset
    (fun s => ((s.setPJ 0 ⟨0x0, 0x0, 0x0⟩).setT true)) := by
  decide +kernel

/-- V220: JTOA pa1, pj0 (R247 another representative). -/
theorem test_jtoa_V220 : EndsWith 0x0000014B
    (State.reset.setPJ 0 ⟨0xB7A5567AF3E1B5DB4C49D17A550F956F8A753FC66588461DB2474F42D1A25A20, 0x2DFA3552363A427C3D5032B4E9DBA74C9324892982A575C7D90D30FF84A1675C, 0x7⟩)
    (fun s => ((s.setPA 1 ⟨0x32C4AE2C1F1981195F9904466A39C9948FE30BBFF2660BE1715A4589334C74C7, 0xBC3736A2F4F6779C59BDCEE36B692153D0A9877CC62A474002DF32E52139F0A0, false⟩).setT false)) := by
  decide +kernel

/-- V219: JTOA pa1, pj0 (R247 Z = 0). -/
theorem test_jtoa_V219 : EndsWith 0x0000014B
    (State.reset.setPJ 0 ⟨0x5, 0x7, 0x0⟩)
    (fun s => ((s.setPA 1 ⟨0, 0, true⟩).setT true)) := by
  decide +kernel

/-- V221: JDBL pj1, pj0 (R248). -/
theorem test_jdbl_V221 : EndsWith 0x0000014C
    (State.reset.setPJ 0 ⟨0x32C4AE2C1F1981195F9904466A39C9948FE30BBFF2660BE1715A4589334C74C7, 0xBC3736A2F4F6779C59BDCEE36B692153D0A9877CC62A474002DF32E52139F0A0, 0x1⟩)
    (fun s => ((s.setPJ 1 ⟨0xAAF267193307F0BC2CC50158A859C4D498A95A20C53D7E3E3FE035498A9CC3FB, 0x9BD5CD4DA36E1FF5F34D9133C23ED44F9BB110028C1F5BE8CC53AA8AA621568A, 0x786E6D46E9ECEF38B37B9DC6D6D242A7A1530EFA8C548E7F05BE65CA4273E141⟩).setT false)) := by
  decide +kernel

/-- V223: JDBL pj1, pj0 (R248 Y = 0). -/
theorem test_jdbl_V223 : EndsWith 0x0000014C
    (State.reset.setPJ 0 ⟨0x5, 0x0, 0x1⟩)
    (fun s => ((s.setPJ 1 ⟨0x0, 0x0, 0x0⟩).setT true)) := by
  decide +kernel

/-- V224: JADDM pj2, pj1, pa0 (R249 2G + G). -/
theorem test_jaddm_V224 : EndsWith 0x0000124D
    ((State.reset.setPJ 1 ⟨0xAAF267193307F0BC2CC50158A859C4D498A95A20C53D7E3E3FE035498A9CC3FB, 0x9BD5CD4DA36E1FF5F34D9133C23ED44F9BB110028C1F5BE8CC53AA8AA621568A, 0x786E6D46E9ECEF38B37B9DC6D6D242A7A1530EFA8C548E7F05BE65CA4273E141⟩).setPA 0 ⟨0x32C4AE2C1F1981195F9904466A39C9948FE30BBFF2660BE1715A4589334C74C7, 0xBC3736A2F4F6779C59BDCEE36B692153D0A9877CC62A474002DF32E52139F0A0, false⟩)
    (fun s => ((s.setPJ 2 ⟨0x39F11EA8237B7ADCD38DE8AFA2DB016A1A5C26A2F2EBCEDFC69F39687A92584F, 0xA2C40395FDAFE5B6EB20B5C2C2AF7A4C817205AC4B703DE83724FE37A62E928A, 0x5D12C2723D46D36990833C2CEB44DE636C6452D5754E5BD71C60EE4794C42D64⟩).setT false)) := by
  decide +kernel

/-- V228: JADDM pj2, pj1, pa0 (R249 opposite points). -/
theorem test_jaddm_V228 : EndsWith 0x0000124D
    ((State.reset.setPJ 1 ⟨0x32C4AE2C1F1981195F9904466A39C9948FE30BBFF2660BE1715A4589334C74C7, 0xBC3736A2F4F6779C59BDCEE36B692153D0A9877CC62A474002DF32E52139F0A0, 0x1⟩).setPA 0 ⟨0x32C4AE2C1F1981195F9904466A39C9948FE30BBFF2660BE1715A4589334C74C7, 0x43C8C95C0B098863A642311C9496DEAC2F56788239D5B8C0FD20CD1ADEC60F5F, false⟩)
    (fun s => ((s.setPJ 2 ⟨0x0, 0x0, 0x0⟩).setT true)) := by
  decide +kernel

/-- V230: SM3INIT (R285). -/
theorem test_sm3init_V230 : EndsWith 0x00000050
    (State.reset.setV 0)
    (fun s => (s.setV 0x7380166F4914B2B9172442D7DA8A0600A96F30BC163138AAE38DEE4DB0FB0E4E)) := by
  decide +kernel

/-- V232: SM3CF r0 (R286: "abc", §8). -/
theorem test_sm3cf_V232 : EndsWith 0x00000051
    ((State.reset.writeR 0 0x6162638000000000000000000000000000000000000000000000000000000000).writeR 1 0x18)
    (fun s => (s.setV 0x66C7F0F462EEEDD9D1F2D46BDC10E4E24167C4875CF2F7A2297DA02B8F4BA8E0)) := by
  decide +kernel

/-- V234: SM3RD r2 (R287 (V = IV after reset)). -/
theorem test_sm3rd_V234 : EndsWith 0x00000252
    State.reset
    (fun s => (s.writeR 2 0x7380166F4914B2B9172442D7DA8A0600A96F30BC163138AAE38DEE4DB0FB0E4E)) := by
  decide +kernel

/-- V235: SM3WR r3 (R288). -/
theorem test_sm3wr_V235 : EndsWith 0x00003053
    (State.reset.writeR 3 0x123456789ABCDEF)
    (fun s => (s.setV 0x123456789ABCDEF)) := by
  decide +kernel

/-- V237: SM4KEY r0 (R320). -/
theorem test_sm4key_V237 : Satisfies 0x00000060
    (State.reset.writeR 0 0x123456789ABCDEFFEDCBA9876543210)
    (fun t => t.data.rk[0] == 0xF12186F9 && t.data.rk[1] == 0x41662B61 && t.data.rk[2] == 0x5A6AB19A && t.data.rk[3] == 0x7BA92077 && t.data.rk[31] == 0x9124A012 && t.data.keyv) := by
  decide +kernel

/-- V240: SM4ENC r2, r1 (R321 upper bits ignored). -/
theorem test_sm4enc_V240 : EndsWith 0x00001261
    ((State.reset.writeR 1 0xDEAD0000000000000000000123456789ABCDEFFEDCBA9876543210).setKeys (keyExp 0x0123456789ABCDEFFEDCBA9876543210))
    (fun s => (s.writeR 2 0x681EDF34D206965E86B3E94F536E4246)) := by
  decide +kernel

/-- V243: SM4ENC r2, r1 (R321 NO_KEY after reset). -/
theorem test_sm4enc_V243 : EndsWithError 0x00001261 2
    (State.reset.writeR 1 0x123456789ABCDEFFEDCBA9876543210) := by
  decide +kernel

/-- V242: SM4DEC r3, r2 (R322). -/
theorem test_sm4dec_V242 : EndsWith 0x00002362
    ((State.reset.writeR 2 0x681EDF34D206965E86B3E94F536E4246).setKeys (keyExp 0x0123456789ABCDEFFEDCBA9876543210))
    (fun s => (s.writeR 3 0x123456789ABCDEFFEDCBA9876543210)) := by
  decide +kernel

/-- V244: SM4DEC r3, r2 (R322 NO_KEY). -/
theorem test_sm4dec_V244 : EndsWithError 0x00002362 2
    (State.reset.writeR 2 0x123456789ABCDEFFEDCBA9876543210) := by
  decide +kernel

/-- V245: SM4T r1, r0 (R323). -/
theorem test_sm4t_V245 : EndsWith 0x00000163
    (State.reset.writeR 0 0x1234567)
    (fun s => (s.writeR 1 0x6EF180C9)) := by
  decide +kernel

/-- V247: SM4TK r1, r0 (R324). -/
theorem test_sm4tk_V247 : EndsWith 0x00000164
    (State.reset.writeR 0 0x1234567)
    (fun s => (s.writeR 1 0xCFC85B85)) := by
  decide +kernel

/-- V249: SM4SB r1, r0 (R325). -/
theorem test_sm4sb_V249 : EndsWith 0x00000165
    (State.reset.writeR 0 0x12345678)
    (fun s => (s.writeR 1 0x9AC9DA4C)) := by
  decide +kernel

/-- V251: SM4SB r1, r0 (R325 Sbox[0x71] = 0x00). -/
theorem test_sm4sb_V251 : EndsWith 0x00000165
    (State.reset.writeR 0 0x71000000)
    (fun s => (s.writeR 1 0xD6D6D6)) := by
  decide +kernel

/-- V252: SM4L r1, r0 (R326). -/
theorem test_sm4l_V252 : EndsWith 0x00000166
    (State.reset.writeR 0 0x12345678)
    (fun s => (s.writeR 1 0xAA4E9357)) := by
  decide +kernel

/-- V254: SM4LK r1, r0 (R327). -/
theorem test_sm4lk_V254 : EndsWith 0x00000167
    (State.reset.writeR 0 0x12345678)
    (fun s => (s.writeR 1 0xA4F24E15)) := by
  decide +kernel

/-! ## The bus -/

/-- A block with ADD r3, r1, r2 in flight. -/
def inFlight : State := State.reset.accept 0x00021310

/-- A block with an error pending. -/
def inError : State := State.reset.raised .divZero

/-- The fixed reads after reset (R40, R42, R49, R54, R81) and a word of V. -/
theorem test_bus_reads :
    (State.reset.busRead 0x000 32).response = some ⟨true, some 0x534D5807⟩ ∧
    (State.reset.busRead 0x008 32).response = some ⟨true, some 0⟩ ∧
    (State.reset.busRead 0x010 32).response = some ⟨true, some 0xF⟩ ∧
    (State.reset.busRead 0x600 32).response = some ⟨true, some 0xB0FB0E4E⟩ ∧
    (State.reset.busRead 0x61C 32).response = some ⟨true, some 0x7380166F⟩ ∧
    (State.reset.busRead 0x014 32).response = some ⟨true, some 0⟩ ∧
    (State.reset.busRead 0x002 32).response = some ⟨false, some 0⟩ ∧
    (State.reset.busRead 0x000 8).response = some ⟨false, some 0⟩ := by decide

/-- Writes to the first and last words of the register ranges (R80, R83). -/
theorem test_bus_writes :
    (State.reset.busWrite 0x100 32 0xAABBCCDD).data.r[0] = 0xAABBCCDD ∧
    (State.reset.busWrite 0x2FC 32 0x80000000).data.r[15] = 0x80000000#256 <<< 224 ∧
    (State.reset.busWrite 0x3E0 32 5).data.pa[3].y = 5 ∧
    (State.reset.busWrite 0x540 32 5).data.pj[3].Y = 5 ∧
    (State.reset.busWrite 0x560 32 5).data.pj[3].Z = 5 ∧
    (State.reset.busWrite 0x010 32 0xFFFFFFF5).data.painfWord = 5 := by decide

/-- Submission: accepted when idle, dropped with OVR while BUSY = 1 or ERR = 1 (R73, R410). -/
theorem test_bus_submit :
    (State.reset.busWrite 0x00C 32 0x00021310).statusWord = 1 ∧
    (inFlight.busWrite 0x00C 32 0).cmd = 0x00021310 ∧ (inFlight.busWrite 0x00C 32 0).statusWord = 9 ∧
    (inError.busWrite 0x00C 32 0).statusWord = 0x30E ∧
    (inError.busWrite 0x008 32 0x4).statusWord = 2 := by decide

/-- CTRL while a command is in flight: IE alone with bit 1 = 0 (R41, R84); and during an asserted reset
input a write of CTRL.SRST changes nothing (R450). -/
theorem test_bus_ctrl :
    (inFlight.busWrite 0x004 32 0xFFFFFFFD).ctrlWord = 1 ∧
    (inFlight.busWrite 0x004 32 0xFFFFFFFD).inflight = inFlight.inflight ∧
    (inFlight.busWrite 0x004 32 3).ctrlWord = 0 ∧ (inFlight.busWrite 0x004 32 3).statusWord = 0 ∧
    ((inFlight.setResetInput true).answerInReset false).inReset = true := by decide

/-- An illegal word is accepted and completes with ERRCODE 1 (R113). -/
theorem test_illegal_word : EndsWithError 0x00021312 1 State.reset := by decide +kernel

/-! ## Witnesses: for every statement with hypotheses, a state and operands that meet them -/

theorem witness_DecodeInvertsEncode :
    (Instr.mul 14 15 15).wf = true ∧ (Instr.mul 0 0 0).wf = true ∧ Instr.nop.wf = true := by decide

theorem witness_EncodeInvertsDecode : decodeWord 0xFF005016#32 = .ok (.getbit 5 255) := by decide

theorem witness_MatchingRowDecodes :
    ∃ row ∈ opcodeTable, 0x00F21320#32 &&& row.mask = row.mtch := by decide

/-- A matching word, a breaching word of the same opcode, and the ends of every reserved range of R107. -/
theorem witness_MasksTestFieldUses :
    (∃ row ∈ opcodeTable, opOf row.mtch = opOf 0x00021412#32 ∧ 0x00021412#32 &&& row.mask = row.mtch) ∧
    (∃ row ∈ opcodeTable, opOf row.mtch = opOf 0x00021312#32 ∧ 0x00021312#32 &&& row.mask ≠ row.mtch) ∧
    ([0x04#32, 0x0F#32, 0x1A#32, 0x1F#32, 0x27#32, 0x2F#32, 0x38#32, 0x3F#32, 0x4E#32, 0x4F#32,
      0x54#32, 0x5F#32, 0x68#32, 0xFF#32].all fun w => decide (decodeWord w = .error .reservedOp)) ∧
    [0x03#32, 0x10#32, 0x19#32, 0x20#32, 0x26#32, 0x30#32, 0x37#32, 0x40#32, 0x4D#32, 0x50#32,
      0x53#32, 0x60#32, 0x67#32].all fun w => decide (decodeWord w ≠ .error .reservedOp) := by decide +kernel

theorem witness_IllegalWordCompletesWithIllegal :
    State.reset.busy = false ∧ State.reset.err = false ∧
    ∃ f, (State.reset.accept 0x00000004).inflight = some f ∧
      ∀ row ∈ opcodeTable, f.word &&& row.mask ≠ row.mtch :=
  ⟨rfl, rfl, ⟨0x00000004, Data.reset⟩, rfl, by decide⟩

theorem witness_StepRunsDecodedCommand :
    inFlight.inReset = false ∧ inFlight.inflight = some ⟨0x00021310, Data.reset⟩ ∧
    decodeWord 0x00021310 = .ok (.add 3 1 2) ∧ inFlight.events = [] ∧ State.reset.inflight = none ∧
    (State.reset.setResetInput true).inReset = true ∧
    ∀ e : Event, { inFlight with events := [e, .read 8 32] }.events = e :: [.read 8 32] ∧
      { State.reset with events := [e], inReset := true }.events = e :: [] :=
  ⟨rfl, rfl, by decide, rfl, rfl, rfl, fun _ => ⟨rfl, rfl⟩⟩

/-- One command for each of the errors, INV_ZERO by both of its commands. -/
theorem witness_ErrorsComeFromTheirCommands :
    let s := State.reset.writeR 1 7
    let raises := fun (i : Instr) (code : BitVec 4) =>
      ∃ t, exec i s = .next t ∧ t.err = true ∧ t.errcode = code
    s.err = false ∧ raises (.mul 3 1 2) 1 ∧ raises (.sm4dec 0 1) 2 ∧ raises (.mred 0 0 2) 3 ∧
      raises (.minv 0 2 1) 4 ∧ raises (.finv 0 2) 4 :=
  ⟨rfl, ⟨_, rfl, rfl, rfl⟩, ⟨_, rfl, rfl, rfl⟩, ⟨_, rfl, rfl, rfl⟩, ⟨_, rfl, rfl, rfl⟩,
    ⟨_, rfl, rfl, rfl⟩⟩

theorem inFlight_inv : inFlight.Inv where
  busyInFlight := rfl
  snapshotLive f h := by cases h; exact ⟨rfl, rfl⟩
  busyClear _ := ⟨rfl, rfl⟩
  codeWithErr := by decide
  codeRange := by decide
  keysUnset _ := rfl
  heldInReset h := by cases h

theorem witness_StepKeepsInv : ∃ s t : State, s.Inv ∧ s.busy = true ∧ step s = .next t :=
  ⟨inFlight, _, inFlight_inv, rfl, rfl⟩

theorem witness_AcceptedCommandCompletes : ∃ s : State, s.Inv ∧ s.busy = true :=
  ⟨inFlight, inFlight_inv, rfl⟩

theorem witness_TrafficCannotChangeAcceptedCommand :
    ∃ s : State, ∃ traffic : List Event, s.Inv ∧ s.busy = true ∧ s.inReset = false ∧
      traffic = [.read 0x100 32, .write 0x120 32 1, .write 0x004 32 1, .write 0x00C 32 0] ∧
      ∀ e ∈ traffic, e.isTraffic = true :=
  ⟨inFlight, _, inFlight_inv, rfl, rfl, rfl, by decide⟩

/-- Accepted, dropped while busy, dropped in error; and the ends of each writable data range. -/
theorem witness_WritesAreAcceptedOrDroppedWithOvr :
    (State.reset.busy = false ∧ State.reset.err = false) ∧ inFlight.busy = true ∧ inError.err = true ∧
    [0x010#12, 0x100#12, 0x57C#12, 0x600#12, 0x61C#12].all fun off =>
      decide (off.toNat % 4 = 0 ∧ (off.toNat = 0x010 ∨ (0x100 ≤ off.toNat ∧ off.toNat < 0x580) ∨
        (0x600 ≤ off.toNat ∧ off.toNat < 0x620)) ∧ (inFlight.busWrite off 32 1).statusWord = 9) := by
  decide

theorem witness_OnlyAlignedWordsAreLegal :
    ((8 ≠ 32 ∨ (0x000#12).toNat % 4 ≠ 0) ∧ (32 ≠ 32 ∨ (0xFFE#12).toNat % 4 ≠ 0)) ∧
      (0xFFC#12).toNat % 4 = 0 := by decide

/-- The ends of every reserved range read 0, and those of every data range are data. -/
theorem witness_ReadsFollowTheAddressMap :
    State.reset.busy = false ∧ inFlight.busy = true ∧
    (∀ off ∈ [0x014, 0x0FC, 0x580, 0x5FC, 0x620, 0x6FC, 0x780, 0xFFC],
      off % 4 = 0 ∧ ((0x014 ≤ off ∧ off < 0x100) ∨ (0x580 ≤ off ∧ off < 0x600) ∨
        (0x620 ≤ off ∧ off < 0x700) ∨ (0x780 ≤ off ∧ off < 0x1000)) ∧
      windowAt off = .reserved) ∧
    ∀ off ∈ [0x010, 0x100, 0x57C, 0x600, 0x61C, 0x700, 0x77C],
      off % 4 = 0 ∧ (off = 0x010 ∨ (0x100 ≤ off ∧ off < 0x580) ∨ (0x600 ≤ off ∧ off < 0x620) ∨
        (0x700 ≤ off ∧ off < 0x780)) ∧ (windowAt off).isData = true := by decide

theorem witness_WindowWordWriteThenRead :
    State.reset.busy = false ∧ (0x104#12) ≠ 0x100#12 ∧ (0x104#12).toNat % 4 = 0 ∧
    [0x010#12, 0x100#12, 0x57C#12, 0x600#12, 0x61C#12].all fun off =>
      decide (off.toNat % 4 = 0 ∧ (off.toNat = 0x010 ∨ (0x100 ≤ off.toNat ∧ off.toNat < 0x580) ∨
        (0x600 ≤ off.toNat ∧ off.toNat < 0x620))) := by decide

theorem witness_ReadOnlyAndReservedIgnoreWrites :
    [0x000#12, 0x700#12, 0x77C#12, 0x014#12, 0x0FC#12, 0x580#12, 0x5FC#12, 0x620#12, 0x6FC#12,
        0x780#12, 0xFFC#12].all fun off =>
      decide (off.toNat % 4 = 0 ∧ (off.toNat = 0x000 ∨ (0x700 ≤ off.toNat ∧ off.toNat < 0x780) ∨
        (0x014 ≤ off.toNat ∧ off.toNat < 0x100) ∨ (0x580 ≤ off.toNat ∧ off.toNat < 0x600) ∨
        (0x620 ≤ off.toNat ∧ off.toNat < 0x700) ∨ 0x780 ≤ off.toNat) ∧
      (inFlight.busWrite off 32 0xFFFFFFFF).statusWord = 1) := by
  decide

theorem witness_ErrorBlocksUntilCleared :
    inError.err = true ∧ inError.busy = false ∧ (0x00000004#32).getLsbD 2 = true := by decide

theorem witness_IrqFollowsDoneAndEnable :
    (0x00000002#32).getLsbD 1 = true ∧ (0x00000001#32).getLsbD 1 = false ∧
    State.reset.busy = false ∧ State.reset.err = false ∧
    { inError with ie := true }.irq = true := by decide

theorem witness_SoftResetRestoresReset :
    (0x00000002#32).getLsbD 1 = true ∧ (0x00000003#32).getLsbD 1 = true ∧
    (0x00000001#32).getLsbD 1 = false ∧ (0xFFFFFFFD#32).getLsbD 1 = false := by decide

theorem witness_ResetAbortsCommandInFlight :
    inFlight.inReset = false ∧ (0x00000002#32).getLsbD 1 = true := by decide

/-- The even pairs' first and last register. -/
theorem witness_MulAndSqrGiveExactProduct : pairEven 0 = true ∧ pairEven 14 = true := by decide

theorem witness_LimbChainsGiveTheSameResults : pairEven 0 = true ∧ pairEven 14 = true := by decide

theorem witness_FieldCommandsGiveResidues : pairEven 0 = true ∧ pairEven 14 = true := by decide

/-- Operand registers for the witnesses: R1 = 3, R2 = 5, R3 = 7, R4 = p, R5 = n, R6 = n − 1, R7 = 6,
R8 = 21, R9 = 1; R0 = 0. -/
def ops : State :=
  ((((((((State.reset.writeR 1 3).writeR 2 5).writeR 3 7).writeR 4 (rom 0)).writeR 5 (rom 3)).writeR 6
    (rom 3 - 1)).writeR 7 6).writeR 8 21).writeR 9 1

theorem witness_OddPairEndsIllegal :
    pairEven 15 = false ∧ (Instr.mul 15 1 2 = .mul 15 1 2 ∧ Instr.pst 15 0 = .pst 15 0) := by decide

theorem witness_ZeroModulusEndsDivZero : ops.natR 0 = 0 ∧ pairEven 14 = true := by decide

theorem witness_ModularCommandsGiveResidues :
    pairEven 14 = true ∧ ops.natR 0 = 0 ∧ ops.natR 3 ≠ 0 ∧ ops.natR 9 = 1 := by decide

theorem witness_MpowRunsSquareAndMultiply : ops.natR 0 = 0 ∧ ops.natR 3 ≠ 0 := by decide

/-- An exponent below the modulus, and one with bits above the modulus's length. -/
theorem witness_MpowGivesTruncatedPower :
    ops.natR 3 ≠ 0 ∧ ops.natR 2 < ops.natR 3 ∧ ops.natR 3 < 2 ^ 3 ∧ 2 ^ 3 ≤ ops.natR 8 := by decide

theorem witness_MinvGivesFermatPower :
    ops.natR 0 = 0 ∧ (ops.natR 3 ≠ 0 ∧ ops.natR 8 % ops.natR 3 = 0) ∧
    (ops.natR 3 ≠ 0 ∧ ops.natR 1 % ops.natR 3 ≠ 0) ∧
    (ops.natR 7 ≠ 0 ∧ ops.natR 1 % ops.natR 7 ≠ 0) := by decide

theorem witness_MinvInvertsForPrimeModulus :
    (ops.natR 3).Prime ∧ ops.natR 1 % ops.natR 3 ≠ 0 :=
  ⟨(show ops.natR 3 = 7 from rfl) ▸ (by decide : Nat.Prime 7), by decide⟩

theorem witness_MmulIsMulThenMred :
    ops.src = ops.data ∧ (ops.accept 0).src = (ops.accept 0).data ∧ ops.natR 3 ≠ 0 ∧ pairEven 14 = true ∧
    (3 : RReg) ≠ 14 ∧ (3 : RReg) ≠ 14 + 1 := ⟨rfl, rfl, by decide, rfl, by decide, by decide⟩

theorem witness_FinvGivesFermatPower :
    ops.natR 4 % Config.SM2_p = 0 ∧ ops.natR 1 % Config.SM2_p ≠ 0 := by decide +kernel

theorem one_pow_mod_p (a k : Nat) (e : a = 1) : a ^ k % Config.SM2_p ≠ 0 := by
  rw [e, Nat.one_pow]
  decide

theorem ops_one : ops.natR 9 = 1 := by decide +kernel

theorem witness_FieldCommandsAreModularByP :
    ops.natR 4 = Config.SM2_p ∧ ops.natR 9 ^ (Config.SM2_p - 2) % Config.SM2_p ≠ 0 :=
  ⟨by decide +kernel, one_pow_mod_p (ops.natR 9) (Config.SM2_p - 2) ops_one⟩

theorem witness_FastReducerGivesResidue : 2 ^ 512 - 1 < 2 ^ 512 ∧ 0 < 2 ^ 512 := by norm_num

/-! ### Points -/

/-- Points for the witnesses: PA0 = O, PA1 = G, PA2 = (2, 3), PA3 = (2, 5); J0 = (0, 0, 0),
J1 = (2, 0, 1), J2 = (2, 3, 1), J3 = (Gx, Gy, 1); R4 = p, R5 = n, R6 = n − 1, R9 = 1. -/
def pts : State :=
  ((((((ops.writeA 1 (.affine Config.SM2_Gx Config.SM2_Gy)).setPA 2 ⟨2, 3, false⟩).setPA 3
    ⟨2, 5, false⟩).setPJ 1 ⟨2, 0, 1⟩).setPJ 2 ⟨2, 3, 1⟩).setPJ 3
    ⟨BitVec.ofNat 256 Config.SM2_Gx, BitVec.ofNat 256 Config.SM2_Gy, 1⟩)

theorem witness_PointLoadsAndStores :
    pairEven 14 = true ∧ pts.src.pa[0].inf = true ∧ pts.src.pa[1].inf = false := by decide

theorem witness_PnegFlipsY : pts.src.pa[0].inf = true ∧ pts.src.pa[2].inf = false := by decide

/-- Z = p counts as infinity: the coordinate is read mod p. -/
theorem witness_ConversionsBetweenForms :
    pts.src.pa[0].inf = true ∧ pts.src.pa[1].inf = false ∧
    (pts.setPJ 0 ⟨1, 1, rom 0⟩).src.pj[0].Z.toNat % Config.SM2_p = 0 ∧
    pts.src.pj[2].Z.toNat % Config.SM2_p ≠ 0 := by decide +kernel

theorem two_ne_zero_p : (2 : ZMod Config.SM2_p) ≠ 0 := by
  have h := (cast_eq_zero_of_lt (v := 2) (by decide)).not
  exact_mod_cast h.2 (by decide)

/-- Z = 0; a point of order 2 in form (Y = 0, Z ≠ 0); and the generic case. -/
theorem witness_JdblGivesDoublingFormula :
    let Y := fun j : JReg => (pts.src.pj[j].Y.toNat : ZMod Config.SM2_p)
    let Z := fun j : JReg => (pts.src.pj[j].Z.toNat : ZMod Config.SM2_p)
    Z 0 = 0 ∧ (Z 1 ≠ 0 ∧ 2 * Y 1 * Z 1 = 0) ∧ (Z 2 ≠ 0 ∧ 2 * Y 2 * Z 2 ≠ 0) := by
  have : Nontrivial (ZMod Config.SM2_p) := ⟨2, 0, two_ne_zero_p⟩
  have h6 : (2 : ZMod Config.SM2_p) * 3 ≠ 0 := by
    have h := (cast_eq_zero_of_lt (v := 6) (by decide)).not
    have h2 : ((6 : Nat) : ZMod Config.SM2_p) ≠ 0 := h.2 (by decide)
    intro e
    apply h2
    push_cast
    linear_combination e
  simp only [(show pts.src.pj[(0 : JReg)].Z.toNat = 0 from rfl), (show pts.src.pj[(1 : JReg)].Z.toNat = 1 from rfl),
    (show pts.src.pj[(1 : JReg)].Y.toNat = 0 from rfl), (show pts.src.pj[(2 : JReg)].Y.toNat = 3 from rfl),
    (show pts.src.pj[(2 : JReg)].Z.toNat = 1 from rfl)]
  refine ⟨by simp, ⟨by simp, by simp⟩, by simp, ?_⟩
  push_cast
  simpa using h6

/-- The five cases: P2 = O; J1 = O; equal points; opposite points in form (H = 0, r ≠ 0); and H ≠ 0. -/
theorem witness_JaddmGivesMixedAddition :
    let X := fun j : JReg => (pts.src.pj[j].X.toNat : ZMod Config.SM2_p)
    let Y := fun j : JReg => (pts.src.pj[j].Y.toNat : ZMod Config.SM2_p)
    let Z := fun j : JReg => (pts.src.pj[j].Z.toNat : ZMod Config.SM2_p)
    let x := fun p : PReg => (pts.src.pa[p].x.toNat : ZMod Config.SM2_p)
    let y := fun p : PReg => (pts.src.pa[p].y.toNat : ZMod Config.SM2_p)
    pts.src.pa[0].inf = true ∧
    (pts.src.pa[1].inf = false ∧ pts.src.pa[2].inf = false ∧ pts.src.pa[3].inf = false) ∧ Z 0 = 0 ∧
    Z 2 ≠ 0 ∧ (x 2 * Z 2 ^ 2 - X 2 = 0 ∧ y 2 * Z 2 ^ 3 - Y 2 = 0) ∧
    (x 3 * Z 2 ^ 2 - X 2 = 0 ∧ y 3 * Z 2 ^ 3 - Y 2 ≠ 0) ∧
    x 1 * Z 2 ^ 2 - X 2 ≠ 0 := by
  have : Nontrivial (ZMod Config.SM2_p) := ⟨2, 0, two_ne_zero_p⟩
  have hx : ((Config.SM2_Gx - 2 : Nat) : ZMod Config.SM2_p) ≠ 0 :=
    (cast_eq_zero_of_lt (by decide)).not.2 (by decide)
  simp only [(show pts.src.pj[(0 : JReg)].Z.toNat = 0 from rfl), (show pts.src.pj[(2 : JReg)].X.toNat = 2 from rfl),
    (show pts.src.pj[(2 : JReg)].Y.toNat = 3 from rfl), (show pts.src.pj[(2 : JReg)].Z.toNat = 1 from rfl),
    (show pts.src.pa[(2 : PReg)].x.toNat = 2 from rfl), (show pts.src.pa[(2 : PReg)].y.toNat = 3 from rfl),
    (show pts.src.pa[(3 : PReg)].x.toNat = 2 from rfl), (show pts.src.pa[(3 : PReg)].y.toNat = 5 from rfl),
    (show pts.src.pa[(1 : PReg)].x.toNat = Config.SM2_Gx from rfl)]
  refine ⟨rfl, ⟨rfl, rfl, rfl⟩, by simp, by simp, ⟨by simp, by simp⟩, ⟨by simp, ?_⟩, ?_⟩
  · intro e
    apply two_ne_zero_p
    push_cast at e
    linear_combination e
  · intro e
    apply hx
    rw [Nat.cast_sub (by decide)]
    push_cast at e ⊢
    linear_combination e

theorem witness_AffineStepsAreJacobianSteps :
    pts.src = pts.data ∧ (pts.accept 0).src = (pts.accept 0).data ∧ pts.data.pa[0].inf = true ∧
    pts.data.pa[1].inf = false := ⟨rfl, rfl, rfl, rfl⟩

theorem witness_PmulIsDoubleAndAdd :
    pts.natR 0 = 0 ∧ pts.src.pa[0].inf = true ∧ pts.natR 9 = 1 ∧
    (pts.natR 6 ≠ 0 ∧ pts.src.pa[1].inf = false) := by decide +kernel

/-- G in both forms and the two infinities are on the curve. -/
theorem witness_JacobianStepsStayOnCurve :
    let j := pts.src.pj[(3 : JReg)]
    (pts.src.pj[(0 : JReg)].Z.toNat : ZMod Config.SM2_p) = 0 ∧
    (j.Y.toNat : ZMod Config.SM2_p) ^ 2 =
      (j.X.toNat : ZMod Config.SM2_p) ^ 3 + (Config.SM2_a : ZMod Config.SM2_p) * j.X.toNat * j.Z.toNat ^ 4 +
        (Config.SM2_b : ZMod Config.SM2_p) * j.Z.toNat ^ 6 ∧
    (pts.src.pa[1].point).onCurve = true ∧ Point.infinity.onCurve = true := by
  refine ⟨by rw [(show pts.src.pj[(0 : JReg)].Z.toNat = 0 from rfl)]; simp, ?_, by decide +kernel, rfl⟩
  have h : ∀ a b : Nat, a % Config.SM2_p = b % Config.SM2_p → (a : ZMod Config.SM2_p) = b :=
    fun a b e => (ZMod.natCast_eq_natCast_iff' a b _).2 e
  have e := h (pts.src.pj[(3 : JReg)].Y.toNat ^ 2) (pts.src.pj[(3 : JReg)].X.toNat ^ 3 +
    Config.SM2_a * pts.src.pj[(3 : JReg)].X.toNat * pts.src.pj[(3 : JReg)].Z.toNat ^ 4 +
      Config.SM2_b * pts.src.pj[(3 : JReg)].Z.toNat ^ 6) (by decide +kernel)
  push_cast at e
  exact e

theorem witness_GeneratorHasOrderN :
    pts.readA 1 = .affine Config.SM2_Gx Config.SM2_Gy ∧ pts.natR 5 = Config.SM2_n ∧
    pts.natR 6 = Config.SM2_n - 1 := by decide +kernel

/-! ### SM3 and SM4 -/

theorem witness_Sm3cfCompressesBlock : pairEven 0 = true ∧ pairEven 14 = true := by decide

/-- Both commands, without and with a key. -/
theorem witness_BlockCommandsRunTheRounds :
    ∃ s u : State, s.src.keyv = false ∧ u.src.keyv = true ∧
      (∃ key : Fin 32 → Word, Instr.sm4enc 0 1 = .sm4enc 0 1 ∧ ∀ n, key n = u.src.rk[n]) ∧
      ∃ key : Fin 32 → Word, Instr.sm4dec 0 1 = .sm4dec 0 1 ∧ ∀ n : Fin 32, key n = u.src.rk[31 - n.val] :=
  ⟨State.reset, State.reset.setKeys (Vector.replicate 32 5), rfl, rfl, ⟨_, rfl, fun _ => rfl⟩, _, rfl,
    fun _ => rfl⟩

theorem witness_DecryptionInvertsEncryption :
    let s := State.reset.setKeys (Vector.replicate 32 5)
    s.src = s.data ∧ (s.accept 0).src = (s.accept 0).data ∧ s.data.keyv = true := ⟨rfl, rfl, rfl⟩

theorem witness_SboxPermutesAndDiffusionIsMatrix : ops.readR 7 = ops.readR 1 ^^^ ops.readR 2 := by decide

end Sys2Proof.Tests
end

section
/-! SUPPORT. What a completion can do, said once for every command: it succeeds on new register contents
that keep the round keys or load new ones, or it fails with one error (spec R47, R74, R400, R403). -/

namespace Sys2Proof.Machine

/-- The new register contents `d` keep the round keys of `d₀` with KEYV, or KEYV is set (R47, R320). -/
def Data.KeysFrom (d₀ d : Data) : Prop := d.rk = d₀.rk ∧ d.keyv = d₀.keyv ∨ d.keyv = true

/-- The completions of a command from `s`: success on some register contents, or one error. -/
inductive Completion (s : State) : Result → Prop where
  | success (d : Data) (keys : s.data.KeysFrom d) : Completion s (.next { s with data := d }.finish)
  | error (e : CmdError) : Completion s (.next (s.raised e))

/-- A command that succeeds and leaves the round keys and KEYV alone. -/
theorem Completion.keeping {s : State} (d : Data) (hrk : d.rk = s.data.rk)
    (hkeyv : d.keyv = s.data.keyv) : Completion s (.next { s with data := d }.finish) :=
  .success d (.inl ⟨hrk, hkeyv⟩)

/-! ### The shared forms of a command's end -/

theorem completion_writeResidue (s : State) (rd : RReg) (r : Nat) :
    Completion s (s.writeResidue rd r) := .keeping _ rfl rfl

theorem completion_modular (rd rs3 : RReg) (f : Nat → Nat) (s : State) :
    Completion s (modular rd rs3 f s) := by
  by_cases hm : s.natR rs3 = 0
  · rw [modular_zero hm]
    exact .error _
  · rw [modular_nonzero hm]
    exact completion_writeResidue _ _ _

theorem completion_withPair {s : State} {body : Result} (h : Completion s body) (k : RPair) :
    Completion s (withPair k s body) := by
  cases hk : pairEven k
  · rw [withPair_odd hk]
    exact .error _
  · rw [withPair_even hk]
    exact h

theorem completion_productTo (rdp : RPair) (q : Nat) (s : State) : Completion s (productTo rdp q s) := by
  refine completion_withPair ?_ rdp
  exact .keeping _ rfl rfl

theorem completion_pointResult (s : State) (pd : PReg) (p : Point) :
    Completion s (s.pointResult pd p) := .keeping _ rfl rfl

theorem completion_jacResult (s : State) (jd : JReg) (j : Jac) : Completion s (s.jacResult jd j) :=
  .keeping _ rfl rfl

theorem completion_blockCommand (rd rs1 : RReg) (f : Vector Word 32 → BitVec 128 → BitVec 128)
    (s : State) : Completion s (blockCommand rd rs1 f s) := by
  unfold blockCommand
  split
  · exact .keeping _ rfl rfl
  · exact .error _

theorem completion_wordCommand (rd rs1 : RReg) (f : Word → Word) (s : State) :
    Completion s (wordCommand rd rs1 f s) := .keeping _ rfl rfl

/-! ### The commands with a case of their own -/

theorem completion_minv (rd rs1 rs3 : RReg) (s : State) : Completion s (execMinv rd rs1 rs3 s) := by
  unfold execMinv
  dsimp only
  split
  · exact .error _
  · exact completion_modular _ _ _ _

theorem completion_finv (rd rs1 : RReg) (s : State) : Completion s (execFinv rd rs1 s) := by
  unfold execFinv
  dsimp only
  split
  · exact .error _
  · exact .keeping _ rfl rfl

theorem completion_pst (rdp : RPair) (ps1 : PReg) (s : State) : Completion s (execPst rdp ps1 s) := by
  refine completion_withPair ?_ rdp
  split
  · exact .keeping _ rfl rfl
  · exact .keeping _ rfl rfl

theorem completion_sm3cf (rs1p : RPair) (s : State) : Completion s (execSm3cf rs1p s) := by
  refine completion_withPair ?_ rs1p
  exact .keeping _ rfl rfl

theorem completion_sm4key (rs1 : RReg) (s : State) : Completion s (execSm4key rs1 s) :=
  .success _ (.inr rfl)

/-- Every command, in every state, completes (R400). -/
theorem exec_completion (i : Instr) (s : State) : Completion s (exec i s) := by
  cases i with
  | nop | mov | ldc | ldi | add | sub | cmp | bitlen | getbit | shl1 | shr1 | and =>
    exact .keeping _ rfl rfl
  | pld | pinf | pldg | pchk | peq | jfrom => exact .keeping _ rfl rfl
  | sm3init | sm3rd | sm3wr => exact .keeping _ rfl rfl
  | mul | sqr => exact completion_productTo _ _ _
  | madd | msub | mmul | msqr | mpow => exact completion_modular _ _ _ _
  | minv => exact completion_minv _ _ _ _
  | mred => exact completion_withPair (completion_modular _ _ _ _) _
  | fred => exact completion_withPair (completion_writeResidue _ _ _) _
  | fadd | fsub | fmul | fsqr | fneg | fnorm => exact completion_writeResidue _ _ _
  | finv => exact completion_finv _ _ _
  | pst => exact completion_pst _ _ _
  | pneg | padd | pdbl | pmul | jtoa => exact completion_pointResult _ _ _
  | jdbl | jaddm => exact completion_jacResult _ _ _
  | sm3cf => exact completion_sm3cf _ _
  | sm4key => exact completion_sm4key _ _
  | sm4enc | sm4dec => exact completion_blockCommand _ _ _ _
  | sm4t | sm4tk | sm4sb | sm4l | sm4lk => exact completion_wordCommand _ _ _ _

/-- A completion event either finds no command in flight and does nothing, or completes the command
(R43, R74, R113). -/
theorem completeInFlight_cases (s : State) :
    completeInFlight s = .next s ∨ Completion s (completeInFlight s) := by
  cases hf : s.inflight with
  | none => exact .inl (completeInFlight_none hf)
  | some f =>
    right
    cases hd : decodeWord f.word with
    | error r =>
      rw [completeInFlight_illegal hf hd]
      exact .error _
    | ok i =>
      rw [completeInFlight_decoded hf hd]
      exact exec_completion i s

end Sys2Proof.Machine
end

section
/-! SUPPORT. The invariant of the block holds after reset, and every event keeps it: one lemma per
operation that an event performs on the state (spec R43 to R52, R71, R450). -/

namespace Sys2Proof.Machine

/-- The answer of a step is a next state that meets the invariant. -/
def NextMeetsInv : Result → Prop
  | .next t => t.Inv
  | .fault _ => False
  | .refused _ => False

/-! ### Reset -/

/-- The block at its reset values meets the invariant at either level of the reset input (R54, R450). -/
theorem inv_resetBlock_level (s : State) (level : Bool) : { s.resetBlock with inReset := level }.Inv where
  busyInFlight := rfl
  snapshotLive := nofun
  busyClear := nofun
  codeWithErr := ⟨fun _ => rfl, fun _ => rfl⟩
  codeRange := Nat.zero_le 4
  keysUnset := fun _ => rfl
  heldInReset := fun _ => rfl

theorem inv_resetBlock (s : State) : s.resetBlock.Inv := inv_resetBlock_level s s.inReset

theorem inv_reset : State.reset.Inv := inv_resetBlock State.reset

/-! ### Bookkeeping outside the block -/

/-- The invariant says nothing of the events to come, the bus answer and the count of draws. -/
theorem State.Inv.outside {s : State} (h : s.Inv) (es : List Event) (r : Option BusResponse) (n : Nat) :
    { s with events := es, response := r, draws := n }.Inv :=
  { h with
    heldInReset := fun hr =>
      congrArg (fun u : State => { u with events := es, response := r, draws := n }) (h.heldInReset hr) }

theorem State.Inv.answer {s : State} (h : s.Inv) (okay : Bool) (data : Option Word) :
    (s.answer okay data).Inv := h.outside _ _ _

theorem State.Inv.busRead {s : State} (h : s.Inv) (off : BitVec 12) (size : Nat) :
    (s.busRead off size).Inv := by
  obtain ⟨r, n, hread⟩ := busRead_frame s off size
  rw [hread]
  exact h.outside _ _ _

theorem State.Inv.setResetInput {s : State} (h : s.Inv) (asserted : Bool) :
    (s.setResetInput asserted).Inv := by
  unfold State.setResetInput
  split
  · exact inv_resetBlock_level s asserted
  · exact h

/-! ### Writes while the reset input is not asserted -/

/-- While the block runs, the clause about an asserted reset input asks nothing (log 8). -/
theorem held_of_running {s : State} (hr : s.inReset = false) :
    s.inReset = true → s = s.resetBlock := fun h => absurd (h.symm.trans hr) (by decide)

theorem State.Inv.writeCtrl {s : State} (h : s.Inv) (hr : s.inReset = false) (w : Word) :
    (s.writeCtrl w).Inv := by
  unfold State.writeCtrl
  split
  · exact inv_resetBlock s
  · exact { h with heldInReset := held_of_running hr }

/-- Clearing ERR and ERRCODE together keeps them in agreement (R42, R45). -/
theorem State.Inv.clearStatus {s : State} (h : s.Inv) (hr : s.inReset = false) (w : Word) :
    (s.clearStatus w).Inv where
  busyInFlight := h.busyInFlight
  snapshotLive := h.snapshotLive
  busyClear hb := by
    obtain ⟨hdone, herr⟩ := h.busyClear hb
    simp [hdone, herr]
  codeWithErr := by
    rw [clearStatus_err, clearStatus_errcode]
    cases w.getLsbD 2
    · simpa using h.codeWithErr
    · simp
  codeRange := by
    rw [clearStatus_errcode]
    cases w.getLsbD 2
    · simpa using h.codeRange
    · simp
  keysUnset := h.keysUnset
  heldInReset := held_of_running hr

/-- A command is accepted only with ERR = 0, and its snapshot is the live registers (R52, R73). -/
theorem State.Inv.submit {s : State} (h : s.Inv) (hr : s.inReset = false) (w : Word) :
    (s.submit w).Inv := by
  unfold State.submit
  split
  next hidle =>
    obtain ⟨-, herr⟩ : s.busy = false ∧ s.err = false := by simpa using hidle
    exact
      { h with
        busyInFlight := rfl
        snapshotLive := by rintro f ⟨⟩; exact ⟨rfl, rfl⟩
        busyClear := fun _ => ⟨rfl, herr⟩
        heldInReset := held_of_running hr }
  next => exact { h with heldInReset := held_of_running hr }

/-- The host cannot write the round keys or KEYV (R47, R50). -/
theorem putWindow_keys (d : Data) (g : WindowReg) (w : Word) :
    (d.putWindow g w).rk = d.rk ∧ (d.putWindow g w).keyv = d.keyv := by
  cases g <;> exact ⟨rfl, rfl⟩

/-- A data write goes through only with BUSY = 0, when there is no snapshot to differ from (R85). -/
theorem State.Inv.writeData {s : State} (h : s.Inv) (hr : s.inReset = false) (g : WindowReg) (w : Word) :
    (s.writeData g w).Inv := by
  unfold State.writeData
  split
  next => exact { h with heldInReset := held_of_running hr }
  next hidle =>
    have hnone : s.inflight = none := by simpa [hidle] using h.busyInFlight
    obtain ⟨hrk, hkeyv⟩ := putWindow_keys s.data g w
    exact
      { h with
        snapshotLive := by simp [hnone]
        keysUnset := by simpa [hrk, hkeyv] using h.keysUnset
        heldInReset := held_of_running hr }

theorem State.Inv.writeWindow {s : State} (h : s.Inv) (hr : s.inReset = false) (g : WindowReg) (w : Word) :
    (s.writeWindow g w).Inv := by
  unfold State.writeWindow
  split
  next => exact h.writeCtrl hr w
  next => exact h.clearStatus hr w
  next => exact h.submit hr w
  next =>
    split
    · exact h.writeData hr g w
    · exact h

theorem State.Inv.busWrite {s : State} (h : s.Inv) (hr : s.inReset = false) (off : BitVec 12) (size : Nat)
    (w : Word) : (s.busWrite off size w).Inv := by
  unfold State.busWrite
  split
  · exact (h.writeWindow hr _ w).answer _ _
  · exact h.answer _ _

/-! ### Completions -/

theorem CmdError.code_ne_zero (e : CmdError) : e.code ≠ 0 := by cases e <;> decide

theorem CmdError.code_le_four (e : CmdError) : e.code.toNat ≤ 4 := by cases e <;> decide

/-- A completion keeps the invariant: BUSY falls with the command in flight, an error sets ERR and ERRCODE
together, and without a key loaded the round keys stay at their reset value (R47, R74, R403). -/
theorem State.Inv.next_completion {s : State} (h : s.Inv) (hr : s.inReset = false) {r : Result}
    (hc : Completion s r) : NextMeetsInv r := by
  cases hc with
  | success d keys =>
    exact
      { h with
        busyInFlight := rfl
        snapshotLive := nofun
        busyClear := nofun
        keysUnset := fun hunset => by
          rcases keys with ⟨hrk, hkeyv⟩ | hset
          · exact hrk.trans (h.keysUnset (hkeyv ▸ hunset))
          · exact absurd (hset.symm.trans hunset) (by decide)
        heldInReset := held_of_running hr }
  | error e =>
    exact
      { h with
        busyInFlight := rfl
        snapshotLive := nofun
        busyClear := nofun
        codeWithErr := iff_of_false (by simp) e.code_ne_zero
        codeRange := e.code_le_four
        heldInReset := held_of_running hr }

theorem State.Inv.next_completeInFlight {s : State} (h : s.Inv) (hr : s.inReset = false) :
    NextMeetsInv (completeInFlight s) := by
  rcases completeInFlight_cases s with hidle | hc
  · rw [hidle]
    exact h
  · exact h.next_completion hr hc

/-! ### Events and steps -/

theorem State.Inv.next_reactInReset {s : State} (h : s.Inv) (e : Event) :
    NextMeetsInv (reactInReset e s) := by
  cases e with
  | read _ _ => exact h.outside _ _ _
  | write _ _ _ => exact h.outside _ _ _
  | complete => exact h
  | resetInput asserted => exact h.setResetInput asserted

theorem State.Inv.next_reactRunning {s : State} (h : s.Inv) (hr : s.inReset = false) (e : Event) :
    NextMeetsInv (reactRunning e s) := by
  cases e with
  | read off size => exact h.busRead off size
  | write off size data => exact h.busWrite hr off size data
  | complete => exact h.next_completeInFlight hr
  | resetInput asserted => exact h.setResetInput asserted

theorem State.Inv.next_react {s : State} (h : s.Inv) (e : Event) : NextMeetsInv (react e s) := by
  cases hr : s.inReset
  · rw [react_running hr]
    exact h.next_reactRunning hr e
  · rw [react_inReset hr]
    exact h.next_reactInReset e

theorem State.Inv.next_settle {s : State} (h : s.Inv) : NextMeetsInv (settle s) := by
  unfold settle
  split
  next => exact h
  next hr => exact h.next_completeInFlight (by simpa using hr)

/-- A step answers a next state that meets the invariant. -/
theorem State.Inv.next_step {s : State} (h : s.Inv) : NextMeetsInv (step s) := by
  cases he : s.events with
  | nil =>
    rw [step_nil he]
    exact h.next_settle
  | cons e rest =>
    rw [step_cons he]
    exact (h.outside rest s.response s.draws).next_react e

/-- Settles O12: each event's operation on the state keeps the invariant. -/
theorem stepKeepsInv : Obligations.StepKeepsInv := by
  intro s t h hs
  have ht : NextMeetsInv (step s) := h.next_step
  rwa [hs] at ht

/-- Settles O11: the reset state is the block at its reset values. -/
theorem resetMeetsInv : Obligations.ResetMeetsInv := inv_reset

end Sys2Proof.Machine
end

section
/-! SUPPORT. STATUS and CTRL as the host reads and writes them, the values after reset, and the pair operands
that no command word can name (spec R33, R41, R42, R54, R452). -/

namespace Sys2Proof.Machine

/-! ### STATUS (R42) -/

/-- STATUS bit by bit, as R42's table places the fields. -/
theorem getLsbD_statusWord (s : State) (n : Fin 32) : s.statusWord.getLsbD n.val =
    if n.val = 0 then s.busy else if n.val = 1 then s.done else if n.val = 2 then s.err
    else if n.val = 3 then s.ovr else if n.val = 4 then s.data.keyv
    else if 8 ≤ n.val ∧ n.val ≤ 11 then s.errcode.getLsbD (n.val - 8)
    else if n.val = 16 then s.data.c else if n.val = 17 then s.data.z
    else if n.val = 18 then s.data.t else false := by
  obtain ⟨i, hi⟩ := n
  simp only [State.statusWord, BitVec.getLsbD_append, BitVec.getLsbD_ofBool]
  interval_cases i <;> simp

/-- A STATUS write, each bit as a case on the bit written. -/
theorem clearStatus_eq (s : State) (w : Word) :
    s.clearStatus w =
      { s with
        done := if w.getLsbD 1 then false else s.done
        err := if w.getLsbD 2 then false else s.err
        errcode := if w.getLsbD 2 then 0 else s.errcode
        ovr := if w.getLsbD 3 then false else s.ovr } := by
  simp only [State.clearStatus, Bool.if_false_left, Bool.decide_eq_true, Bool.and_comm]

/-- Settles O20: the W1C bits of `clearStatus` and the bits of `statusWord`. -/
theorem statusReadsAndClears : Obligations.StatusReadsAndClears := by
  refine ⟨by decide, fun s w => ⟨getLsbD_statusWord s, (busWrite_status s w).trans ?_⟩⟩
  rw [clearStatus_eq]
  rfl

/-! ### CTRL (R41, R452) -/

theorem ctrlWord_eq (s : State) : s.ctrlWord = if s.ie then 1 else 0 := by
  unfold State.ctrlWord
  cases s.ie <;> decide

theorem writeCtrl_srst {w : Word} (h : w.getLsbD 1 = true) (s : State) :
    s.writeCtrl w = s.resetBlock := if_pos h

theorem writeCtrl_ie {w : Word} (h : w.getLsbD 1 = false) (s : State) :
    s.writeCtrl w = { s with ie := w.getLsbD 0 } := if_neg (h ▸ Bool.false_ne_true)

/-- Settles O24: the two forms of a CTRL write, by bit 1 of the word written. -/
theorem softResetRestoresReset : Obligations.SoftResetRestoresReset := by
  intro s w
  have hwrite : s.busWrite 0x004 32 w = (s.writeCtrl w).answer true none := busWrite_ctrl s w
  refine ⟨fun hsrst => ?_, fun hie => ?_, ctrlWord_eq s, ctrlWord_eq State.reset, rfl⟩
  · rw [hwrite, writeCtrl_srst hsrst]
    exact ⟨rfl, ctrlWord_eq _⟩
  · rw [hwrite, writeCtrl_ie hie]
    rfl

/-! ### Reset values (R54) -/

/-- Settles O23: the register files are constant vectors, the rest is evaluated. -/
theorem resetValues : Obligations.ResetValues := by
  refine ⟨fun i => ?_, fun i => ?_, fun i => ?_, fun i => ?_, rfl, ?_⟩
  · exact Vector.getElem_replicate _
  · exact Vector.getElem_replicate _
  · exact Vector.getElem_replicate _
  · exact Vector.getElem_replicate _
  · decide

/-! ### Odd pairs (R33, R103, R110) -/

/-- Settles O29: each command with a pair is guarded by `withPair`. -/
theorem oddPairEndsIllegal : Obligations.OddPairEndsIllegal := by
  intro k a b p s i hodd hi
  have hguard (body : Result) : ∃ t, withPair k s body = .next t ∧ Fails .illegal s t :=
    ⟨_, withPair_odd hodd s body, fails_raised .illegal s⟩
  rcases hi with rfl | rfl | rfl | rfl | rfl | rfl <;> exact ⟨hodd, hguard _⟩

end Sys2Proof.Machine
end

section
/-! SUPPORT. The register window as the host reads and writes it: where each register stands, what a write
leaves unchanged, and which accesses, offsets and bits are ignored (spec R49, R73, R76 to R88). -/

namespace Sys2Proof.Machine

/-! ### The address map (R80) -/

/-- The offset at which a word of the window stands; the reserved offsets have no register, and the first
of them stands for all. -/
def WindowReg.offset : WindowReg → Nat
  | .id => 0x000
  | .ctrl => 0x004
  | .status => 0x008
  | .cmd => 0x00C
  | .painf => 0x010
  | .r i k => 0x100 + 0x20 * i.val + 4 * k.val
  | .paX i k => 0x300 + 0x40 * i.val + 4 * k.val
  | .paY i k => 0x320 + 0x40 * i.val + 4 * k.val
  | .pjX i k => 0x400 + 0x60 * i.val + 4 * k.val
  | .pjY i k => 0x420 + 0x60 * i.val + 4 * k.val
  | .pjZ i k => 0x440 + 0x60 * i.val + 4 * k.val
  | .v k => 0x600 + 4 * k.val
  | .rk i => 0x700 + 4 * i.val
  | .reserved => 0x014

/-- The offsets at which the window holds no register (R80). -/
def ReservedOffset (off : Nat) : Prop :=
  (0x014 ≤ off ∧ off < 0x100) ∨ (0x580 ≤ off ∧ off < 0x600) ∨ (0x620 ≤ off ∧ off < 0x700) ∨ 0x780 ≤ off

theorem windowAt_reserved {off : Nat} (h : ReservedOffset off) : windowAt off = .reserved := by
  unfold ReservedOffset at h
  grind [windowAt]

/-- The address map finds every register at its offset. -/
theorem windowAt_offset (g : WindowReg) : windowAt g.offset = g := by
  cases g with
  | id | ctrl | status | cmd | painf | reserved => rfl
  | r i k => revert i k; decide
  | paX i k | paY i k | pjX i k | pjY i k | pjZ i k => revert i k; decide
  | v k => revert k; decide
  | rk i => revert i; decide

theorem windowAt_rk {off : Nat} (h4 : off % 4 = 0) (h : 0x700 ≤ off ∧ off < 0x780) :
    ∃ i, windowAt off = .rk i := by
  let i : Fin 32 := ⟨(off - 0x700) / 4, by omega⟩
  have hoff : (WindowReg.rk i).offset = off := by simp only [WindowReg.offset, i]; omega
  exact ⟨i, hoff ▸ windowAt_offset (.rk i)⟩

/-- Each word of a register stands at one offset only. -/
theorem offset_windowAt (off : BitVec 12) (h4 : off.toNat % 4 = 0)
    (hg : windowAt off.toNat ≠ .reserved) : (windowAt off.toNat).offset = off.toNat := by
  revert off
  decide +kernel

theorem offset_aligned (g : WindowReg) : g.offset % 4 = 0 := by
  cases g <;> simp only [WindowReg.offset] <;> omega

theorem offset_lt (g : WindowReg) : g.offset < 0x1000 := by
  cases g <;> simp only [WindowReg.offset] <;> omega

/-! ### Reads (R76, R78, R86, R87) -/

/-- A legal read returns the contents of the window, unless it is of a data register while BUSY = 1. -/
theorem busRead_window {off : BitVec 12} (h4 : off.toNat % 4 = 0) {s : State}
    (h : s.busy = false ∨ (windowAt off.toNat).isData = false) :
    s.busRead off 32 = s.answer true (some (s.windowWord (windowAt off.toNat))) := by
  rw [State.busRead, if_pos (legalAccess_word h4), if_neg]
  rcases h with hidle | hctl
  · simp [hidle]
  · simp [hctl]

/-- While BUSY = 1 a read of a data register draws a free value (R86). -/
theorem busRead_free {off : BitVec 12} (h4 : off.toNat % 4 = 0) {s : State} (hb : s.busy = true)
    (hd : (windowAt off.toNat).isData = true) :
    s.busRead off 32 = (s.answer true (some (Config.busyRead s.draws))).drawn := by
  rw [State.busRead, if_pos (legalAccess_word h4), if_pos (by rw [hb, hd]; rfl)]

/-- A legal read is answered OKAY with data. -/
theorem busRead_okay {off : BitVec 12} (h4 : off.toNat % 4 = 0) (s : State) :
    ∃ d, (s.busRead off 32).response = some ⟨true, some d⟩ := by
  by_cases hfree : s.busy = true ∧ (windowAt off.toNat).isData = true
  · exact ⟨_, congrArg State.response (busRead_free h4 hfree.1 hfree.2)⟩
  · have hwin : s.busy = false ∨ (windowAt off.toNat).isData = false := by
      simpa [← Bool.not_eq_true, ← not_and_or] using hfree
    exact ⟨_, congrArg State.response (busRead_window h4 hwin)⟩

theorem toNat_ofNat_of_window {off : Nat} (h : off < 0x1000) : (BitVec.ofNat 12 off).toNat = off :=
  Nat.mod_eq_of_lt h

/-- A read at a register's offset returns the register's word. -/
theorem busRead_offset {s : State} {g : WindowReg} (h : s.busy = false ∨ g.isData = false) :
    (s.busRead (BitVec.ofNat 12 g.offset) 32).response = some ⟨true, some (s.windowWord g)⟩ := by
  have hoff := toNat_ofNat_of_window (offset_lt g)
  rw [busRead_window (by rw [hoff]; exact offset_aligned g) (by rwa [hoff, windowAt_offset]), hoff,
    windowAt_offset]
  rfl

/-- PAINF bit by bit (R49). -/
theorem getLsbD_painfWord (d : Data) (n : Fin 32) :
    d.painfWord.getLsbD n.val = if h : n.val < 4 then d.pa[n.val].inf else false := by
  obtain ⟨i, hi⟩ := n
  simp only [Data.painfWord, BitVec.getLsbD_append, BitVec.getLsbD_ofBool]
  interval_cases i <;> simp

/-- The data registers: the writable ones and RK (R80). -/
theorem windowAt_isData {off : BitVec 12} (h4 : off.toNat % 4 = 0)
    (h : off.toNat = 0x010 ∨ (0x100 ≤ off.toNat ∧ off.toNat < 0x580) ∨
      (0x600 ≤ off.toNat ∧ off.toNat < 0x620) ∨ (0x700 ≤ off.toNat ∧ off.toNat < 0x780)) :
    (windowAt off.toNat).isData = true := by
  by_cases hrk : 0x700 ≤ off.toNat ∧ off.toNat < 0x780
  · obtain ⟨i, hi⟩ := windowAt_rk h4 hrk
    rw [hi]
    rfl
  · have hw := (windowAt_writable off).1 (by omega)
    unfold WindowReg.isWritableData at hw
    split at hw
    · exact absurd hw (by decide)
    · exact hw

/-- Settles O17: each register is read at its offset. -/
theorem readsFollowTheAddressMap : Obligations.ReadsFollowTheAddressMap := by
  intro s
  refine ⟨fun off size => ?_, busRead_offset (g := .id) (.inr rfl),
    (busRead_offset (g := .ctrl) (.inr rfl)).trans (by rw [← ctrlWord_eq]; rfl),
    busRead_offset (g := .status) (.inr rfl), busRead_offset (g := .cmd) (.inr rfl), fun off h4 h => ?_,
    fun hidle => ?_, fun hb off h4 h => ?_⟩
  · obtain ⟨r, n, hread⟩ := busRead_frame s off size
    rw [hread]
  · have hoff := toNat_ofNat_of_window (off := off) (by omega)
    have hres : windowAt (BitVec.ofNat 12 off).toNat = .reserved :=
      windowAt_reserved (by unfold ReservedOffset; omega)
    have hread := busRead_window (s := s) (hoff.symm ▸ h4) (.inr (hres ▸ rfl))
    rw [hres] at hread
    exact congrArg State.response hread
  · have hread (g : WindowReg) := busRead_offset (s := s) (g := g) (.inl hidle)
    exact ⟨getLsbD_painfWord s.data, hread .painf, fun i => hread (.rk i), fun k => ⟨hread (.v k),
      fun i => hread (.r i k), fun i => ⟨hread (.paX i k), hread (.paY i k), hread (.pjX i k),
        hread (.pjY i k), hread (.pjZ i k)⟩⟩⟩
  · have hoff := toNat_ofNat_of_window (off := off) (by omega)
    have hread := busRead_free (hoff.symm ▸ h4) hb (windowAt_isData (hoff.symm ▸ h4) (hoff.symm ▸ h))
    exact ⟨congrArg State.response hread, congrArg State.draws hread⟩

/-! ### One word written, every other word kept (R49, R83, R88) -/

/-- An update of one element keeps what it does not change of that element for every element. -/
theorem vset_proj {α β : Type} {n : Nat} (v : Vector α n) {i : Fin n} {x : α} (f : α → β)
    (hx : f x = f v[i]) (j : Fin n) : f (v.set i x)[j] = f v[j] := by
  by_cases hj : j = i
  · rw [hj, vset_same, hx]
  · rw [vset_other v x hj]

/-- An update of word k of element i keeps every other word of every element. -/
theorem vset_word {α : Type} {n : Nat} (v : Vector α n) {i : Fin n} {k : Fin 8} {w : Word} {x : α}
    (f : α → W256) (hx : f x = putWord (f v[i]) k w) {j : Fin n} {l : Fin 8} (h : ¬(j = i ∧ l = k)) :
    getWord (f (v.set i x)[j]) l = getWord (f v[j]) l := by
  by_cases hj : j = i
  · rw [hj, vset_same, hx, getWord_putWord_other _ fun hl => h ⟨hj, hl⟩]
  · rw [vset_other v x hj]

/-- PAINF shows the inf bits only. -/
theorem painfWord_congr {d d' : Data} (h : ∀ i : PReg, d'.pa[i].inf = d.pa[i].inf) :
    d'.painfWord = d.painfWord := by
  apply BitVec.eq_of_getLsbD_eq
  intro n hn
  rw [getLsbD_painfWord _ ⟨n, hn⟩, getLsbD_painfWord _ ⟨n, hn⟩]
  exact dite_congr rfl (fun h4 => h ⟨n, h4⟩) fun _ => rfl

theorem putPainf_pa (d : Data) (w : Word) (i : PReg) :
    (d.putPainf w).pa[i] = { d.pa[i] with inf := w.getLsbD i.val } := Vector.getElem_ofFn ..

/-- PAINF reads back its four low bits (R49). -/
theorem painfWord_putPainf (d : Data) (w : Word) : (d.putPainf w).painfWord = w &&& 0xF := by
  apply BitVec.eq_of_getLsbD_eq
  intro n hn
  have hmask : (0xF : Word).getLsbD n = decide (n < 4) :=
    (by decide : ∀ m : Fin 32, (0xF : Word).getLsbD m.val = decide (m.val < 4)) ⟨n, hn⟩
  rw [getLsbD_painfWord _ ⟨n, hn⟩, BitVec.getLsbD_and, hmask]
  split
  next h4 => simpa [h4] using congrArg AffReg.inf (putPainf_pa d w ⟨n, h4⟩)
  next h4 => simp [h4]

/-- `s` with one word of the window stored (R83). -/
def State.storeWord (s : State) (g : WindowReg) (w : Word) : State :=
  { s with data := s.data.putWindow g w }

/-- The word of a writable data register reads as written, PAINF in its four low bits. -/
theorem windowWord_putWindow_same {g : WindowReg} (hg : g.isWritableData = true) (s : State) (w : Word) :
    (s.storeWord g w).windowWord g = if g = .painf then w &&& 0xF else w := by
  cases g with
  | id | ctrl | status | cmd | rk | reserved => exact absurd hg Bool.false_ne_true
  | painf => exact painfWord_putPainf s.data w
  | v k => exact getWord_putWord_same s.data.v k w
  | r i k | paX i k | paY i k | pjX i k | pjY i k | pjZ i k =>
    simp [State.windowWord, State.storeWord, Data.putWindow]

/-- Every other word of the window reads as before. -/
theorem windowWord_putWindow_other {g g' : WindowReg} (hne : g' ≠ g) (s : State) (w : Word) :
    (s.storeWord g w).windowWord g' = s.windowWord g' := by
  cases g with
  | id | ctrl | status | cmd | rk | reserved => rfl
  | painf =>
    cases g' with
    | painf => exact absurd rfl hne
    | paX j l => exact congrArg (getWord ·.x l) (putPainf_pa s.data w j)
    | paY j l => exact congrArg (getWord ·.y l) (putPainf_pa s.data w j)
    | _ => rfl
  | v k =>
    cases g' with
    | v l => exact getWord_putWord_other _ (by simpa using hne) w
    | _ => rfl
  | r i k =>
    cases g' with
    | r j l => exact vset_word s.data.r id rfl (by simpa using hne)
    | _ => rfl
  | paX i k =>
    cases g' with
    | paX j l => exact vset_word s.data.pa (·.x) rfl (by simpa using hne)
    | paY j l => exact vset_proj s.data.pa (getWord ·.y l) (by rfl) j
    | painf => exact painfWord_congr (vset_proj s.data.pa (·.inf) (by rfl))
    | _ => rfl
  | paY i k =>
    cases g' with
    | paX j l => exact vset_proj s.data.pa (getWord ·.x l) (by rfl) j
    | paY j l => exact vset_word s.data.pa (·.y) rfl (by simpa using hne)
    | painf => exact painfWord_congr (vset_proj s.data.pa (·.inf) (by rfl))
    | _ => rfl
  | pjX i k =>
    cases g' with
    | pjX j l => exact vset_word s.data.pj (·.X) rfl (by simpa using hne)
    | pjY j l => exact vset_proj s.data.pj (getWord ·.Y l) (by rfl) j
    | pjZ j l => exact vset_proj s.data.pj (getWord ·.Z l) (by rfl) j
    | _ => rfl
  | pjY i k =>
    cases g' with
    | pjX j l => exact vset_proj s.data.pj (getWord ·.X l) (by rfl) j
    | pjY j l => exact vset_word s.data.pj (·.Y) rfl (by simpa using hne)
    | pjZ j l => exact vset_proj s.data.pj (getWord ·.Z l) (by rfl) j
    | _ => rfl
  | pjZ i k =>
    cases g' with
    | pjX j l => exact vset_proj s.data.pj (getWord ·.X l) (by rfl) j
    | pjY j l => exact vset_proj s.data.pj (getWord ·.Y l) (by rfl) j
    | pjZ j l => exact vset_word s.data.pj (·.Z) rfl (by simpa using hne)
    | _ => rfl

theorem answer_windowWord (s : State) (okay : Bool) (data : Option Word) (g : WindowReg) :
    (s.answer okay data).windowWord g = s.windowWord g := by
  cases g <;> rfl

theorem writeData_of_idle {s : State} (hb : s.busy = false) (g : WindowReg) (w : Word) :
    s.writeData g w = s.storeWord g w := if_neg (by simp [hb])

/-- A legal write to a writable data register with BUSY = 0 (R80, R83). -/
theorem busWrite_data_of_idle {off : BitVec 12} (h4 : off.toNat % 4 = 0)
    (hg : (windowAt off.toNat).isWritableData = true) {s : State} (hb : s.busy = false) (w : Word) :
    s.busWrite off 32 w = (s.storeWord (windowAt off.toNat) w).answer true none := by
  rw [busWrite_legal h4, writeWindow_data hg, writeData_of_idle hb]

/-- A writable register's word stands at no other offset. -/
theorem windowAt_ne {off off' : BitVec 12} (h4 : off.toNat % 4 = 0) (h4' : off'.toNat % 4 = 0)
    (hg : (windowAt off.toNat).isWritableData = true) (hne : off' ≠ off) :
    windowAt off'.toNat ≠ windowAt off.toNat := by
  intro heq
  have hres : windowAt off.toNat ≠ .reserved := fun hr => by
    rw [hr] at hg
    exact absurd hg (by decide)
  apply hne
  apply BitVec.eq_of_toNat_eq
  rw [← offset_windowAt off h4 hres, ← heq, offset_windowAt off' h4' (heq ▸ hres)]

/-- Settles O18: the words of the window are independent. -/
theorem windowWordWriteThenRead : Obligations.WindowWordWriteThenRead := by
  intro s off off' w hidle h4 h4' hoff t
  have hg := (windowAt_writable off).1 hoff
  have ht : t = (s.storeWord (windowAt off.toNat) w).answer true none :=
    busWrite_data_of_idle h4 hg hidle w
  have hidle' : t.busy = false := ht ▸ hidle
  have hpainf : windowAt off.toNat = .painf ↔ off.toNat = 0x010 :=
    ⟨fun h => by rw [← offset_windowAt off h4 (by simp [h]), h]; rfl, fun h => by rw [h]; rfl⟩
  have hread {o : BitVec 12} (ho : o.toNat % 4 = 0) : (t.busRead o 32).response =
      some ⟨true, some ((s.storeWord (windowAt off.toNat) w).windowWord (windowAt o.toNat))⟩ := by
    rw [busRead_idle ho hidle', ht, answer_windowWord]
    rfl
  refine ⟨by rw [ht]; rfl, ?_, fun hne => ?_⟩
  · simp only [hread h4, windowWord_putWindow_same hg, hpainf]
  · rw [hread h4', windowWord_putWindow_other (windowAt_ne h4 h4' hg hne), busRead_idle h4' hidle]
    rfl

/-! ### Writes accepted, dropped and ignored (R73, R76, R81, R82, R85) -/

theorem submit_of_busy {s : State} (hb : s.busy = true) (w : Word) :
    s.submit w = { s with ovr := true } := by
  simp [State.submit, hb]

theorem writeData_of_busy {s : State} (hb : s.busy = true) (g : WindowReg) (w : Word) :
    s.writeData g w = { s with ovr := true } := if_pos hb

/-- A write to a read-only register or a reserved offset has no effect (R81, R82). -/
theorem writeWindow_readOnly {g : WindowReg} (hg : g = .id ∨ (∃ i, g = .rk i) ∨ g = .reserved) (s : State)
    (w : Word) : s.writeWindow g w = s := by
  rcases hg with rfl | ⟨i, rfl⟩ | rfl <;> rfl

/-- A CMD write as R73's condition. -/
theorem submit_eq (s : State) (w : Word) :
    s.submit w = if s.busy = false ∧ s.err = false then s.accept w else { s with ovr := true } := by
  simp [State.submit]

/-- Settles O15: a CMD write is `submit`, and a data write goes to `writeData`. -/
theorem writesAreAcceptedOrDroppedWithOvr : Obligations.WritesAreAcceptedOrDroppedWithOvr := by
  intro s w
  refine ⟨(busWrite_cmd s w).trans ?_, fun off hb h4 hoff => ?_⟩
  · rw [submit_eq]
    split
    · rfl
    · rfl
  · rw [busWrite_legal h4, writeWindow_data ((windowAt_writable off).1 hoff), writeData_of_busy hb]
    rfl

/-- Settles O16: by the two cases of `legalAccess`. -/
theorem onlyAlignedWordsAreLegal : Obligations.OnlyAlignedWordsAreLegal := by
  intro s off size w
  refine ⟨fun hill => ?_, fun hsize h4 => ?_⟩
  · have hl : legalAccess off size = false := by
      rw [← Bool.not_eq_true, legalAccess_iff]
      omega
    exact ⟨busRead_illegal hl s, busWrite_illegal hl s w⟩
  · subst hsize
    exact ⟨busRead_okay h4 s, congrArg State.response (busWrite_legal h4 s w)⟩

/-- Bits that a mask keeps read the same under it. -/
theorem getLsbD_and_mask {w m : Word} {n : Nat} (h : m.getLsbD n = true) :
    (w &&& m).getLsbD n = w.getLsbD n := by
  rw [BitVec.getLsbD_and, h, Bool.and_true]

/-- CTRL reads only bits 1 and 0 of a written word (R41). -/
theorem writeCtrl_mask (s : State) (w : Word) : s.writeCtrl (w &&& 0x3) = s.writeCtrl w := by
  simp only [State.writeCtrl, getLsbD_and_mask (show (0x3 : Word).getLsbD 1 = true by decide),
    getLsbD_and_mask (show (0x3 : Word).getLsbD 0 = true by decide)]

/-- STATUS reads only the W1C bits of a written word (R42). -/
theorem clearStatus_mask (s : State) (w : Word) : s.clearStatus (w &&& 0xE) = s.clearStatus w := by
  simp only [State.clearStatus, getLsbD_and_mask (show (0xE : Word).getLsbD 1 = true by decide),
    getLsbD_and_mask (show (0xE : Word).getLsbD 2 = true by decide),
    getLsbD_and_mask (show (0xE : Word).getLsbD 3 = true by decide)]

/-- PAINF reads only the four low bits of a written word (R49). -/
theorem putPainf_mask (d : Data) (w : Word) : d.putPainf (w &&& 0xF) = d.putPainf w := by
  have hbit (i : PReg) : (w &&& 0xF).getLsbD i.val = w.getLsbD i.val :=
    getLsbD_and_mask (by revert i; decide)
  simp only [Data.putPainf, hbit]

theorem writeData_painf_mask (s : State) (w : Word) :
    s.writeData .painf (w &&& 0xF) = s.writeData .painf w := by
  simp only [State.writeData, Data.putWindow, putPainf_mask]

/-- A word is 0 under a mask when each of its bits or the mask's is 0. -/
theorem and_eq_zero_of_bits {v m : Word}
    (h : ∀ n : Fin 32, m.getLsbD n.val = true → v.getLsbD n.val = false) : v &&& m = 0 := by
  apply BitVec.eq_of_getLsbD_eq
  intro n hn
  refine (BitVec.getLsbD_and ..).trans ((Bool.and_eq_false_iff.2 ?_).trans BitVec.getLsbD_zero.symm)
  by_cases hm : m.getLsbD n = true
  · exact .inl (h ⟨n, hn⟩ hm)
  · exact .inr (Bool.eq_false_iff.2 hm)

theorem ctrlWord_reserved (s : State) : s.ctrlWord &&& 0xFFFFFFFE = 0 := by
  rw [ctrlWord_eq]
  cases s.ie <;> decide

theorem statusWord_reserved (s : State) : s.statusWord &&& 0xFFF8F0E0 = 0 := by
  apply and_eq_zero_of_bits
  intro n hn
  have hfield : ¬n.val ≤ 4 ∧ ¬(8 ≤ n.val ∧ n.val ≤ 11) ∧ ¬(16 ≤ n.val ∧ n.val ≤ 18) := by
    revert n
    decide
  rw [getLsbD_statusWord]
  iterate 9 rw [if_neg (by omega)]

theorem painfWord_reserved (d : Data) : d.painfWord &&& 0xFFFFFFF0 = 0 := by
  apply and_eq_zero_of_bits
  intro n hn
  have hhigh : ¬n.val < 4 := by
    revert n
    decide
  rw [getLsbD_painfWord, dif_neg hhigh]

/-- Settles O19: what the address map shows at the ignored offsets, and the masks of the ignored bits. -/
theorem readOnlyAndReservedIgnoreWrites : Obligations.ReadOnlyAndReservedIgnoreWrites := by
  intro s off w h4 reserved
  have hmap (h : reserved) : windowAt off.toNat = .reserved := windowAt_reserved h
  refine ⟨fun h => ?_, fun h => ?_, ?_, ?_, ?_, ctrlWord_reserved s, statusWord_reserved s,
    painfWord_reserved s.data⟩
  · have hg : windowAt off.toNat = .id ∨ (∃ i, windowAt off.toNat = .rk i) ∨
        windowAt off.toNat = .reserved := by
      rcases h with h0 | hrk | hres
      · exact .inl (h0 ▸ rfl)
      · exact .inr (.inl (windowAt_rk h4 hrk))
      · exact .inr (.inr (hmap hres))
    rw [busWrite_legal h4, writeWindow_readOnly hg]
    rfl
  · rw [busRead_window h4 (.inr (hmap h ▸ rfl)), hmap h]
    rfl
  · exact (busWrite_ctrl s w).trans ((writeCtrl_mask s w ▸ busWrite_ctrl s (w &&& 0x3)).symm)
  · exact (busWrite_status s w).trans ((clearStatus_mask s w ▸ busWrite_status s (w &&& 0xE)).symm)
  · exact (busWrite_painf s w).trans ((writeData_painf_mask s w ▸ busWrite_painf s (w &&& 0xF)).symm)

end Sys2Proof.Machine
end

section
/-! SUPPORT. The step as the reaction to the next event, and that every step answers a next state (spec R70,
R71, R74, R400, R413, R450). -/

namespace Sys2Proof.Machine

/-- A step with the reset input not asserted. -/
theorem step_running {s : State} {e : Event} {rest : List Event} (hr : s.inReset = false)
    (hes : s.events = e :: rest) : step s = reactRunning e { s with events := rest } :=
  (step_cons hes).trans (react_running (s := { s with events := rest }) hr e)

/-- A step while the reset input is asserted (R450). -/
theorem step_inReset {s : State} {e : Event} {rest : List Event} (hr : s.inReset = true)
    (hes : s.events = e :: rest) : step s = reactInReset e { s with events := rest } :=
  (step_cons hes).trans (react_inReset (s := { s with events := rest }) hr e)

theorem settle_running {s : State} (hr : s.inReset = false) : settle s = completeInFlight s :=
  if_neg (by simp [hr])

/-- With no command to complete, a step with no event to come does nothing (R451). -/
theorem settle_idle {s : State} (h : s.inReset = true ∨ s.inflight = none) : settle s = .next s := by
  unfold settle
  split
  next => rfl
  next hr => exact completeInFlight_none (h.resolve_left hr)

/-- A command placed by `withFetchWord` is the next event's completion (R73, R74). -/
theorem step_withFetchWord (s : State) {w : Word} {i : Instr} (hd : decodeWord w = .ok i) :
    step (s.withFetchWord 32 w.toNat) = exec i { s.accept w with inReset := false } := by
  have hword : s.withFetchWord 32 w.toNat = s.loadCommand w := by
    rw [State.withFetchWord, Nat.mod_eq_of_lt w.isLt, BitVec.ofNat_toNat, BitVec.setWidth_eq]
  rw [hword, step_running (s := s.loadCommand w) rfl rfl]
  exact completeInFlight_decoded (s := { s.accept w with inReset := false }) rfl hd

/-- Settles O7: the step's equations, event by event. -/
theorem stepRunsDecodedCommand : Obligations.StepRunsDecodedCommand := by
  refine ⟨?_, ?_, fun s hes => ⟨fun hidle => (step_nil hes).trans (settle_idle hidle), fun hr => ?_⟩,
    fun s w i => step_withFetchWord s⟩
  · intro s rest hr u
    refine ⟨fun _ _ => step_running hr, fun _ _ _ => step_running hr, fun _ => step_running hr,
      fun hes => ?_⟩
    have hstep : step s = completeInFlight u := step_running hr hes
    exact ⟨hstep, fun hnone => hstep.trans (completeInFlight_none hnone),
      fun f i hf hd => hstep.trans (completeInFlight_decoded hf hd)⟩
  · intro s rest hr u
    exact ⟨fun _ _ => step_inReset hr, fun _ _ _ => step_inReset hr, fun _ => step_inReset hr,
      step_inReset hr⟩
  · have hstep : step s = completeInFlight s := (step_nil hes).trans (settle_running hr)
    exact ⟨hstep, fun f i hf hd => hstep.trans (completeInFlight_decoded hf hd)⟩

/-! ### Every step answers -/

theorem Completion.answers {s : State} {r : Result} (h : Completion s r) : ∃ t, r = .next t := by
  cases h with
  | success d keys => exact ⟨_, rfl⟩
  | error e => exact ⟨_, rfl⟩

theorem completeInFlight_answers (s : State) : ∃ t, completeInFlight s = .next t := by
  rcases completeInFlight_cases s with hidle | hc
  · exact ⟨s, hidle⟩
  · exact hc.answers

theorem reactRunning_answers (e : Event) (s : State) : ∃ t, reactRunning e s = .next t := by
  cases e with
  | read _ _ | write _ _ _ | resetInput _ => exact ⟨_, rfl⟩
  | complete => exact completeInFlight_answers s

theorem reactInReset_answers (e : Event) (s : State) : ∃ t, reactInReset e s = .next t := by
  cases e <;> exact ⟨_, rfl⟩

/-- Settles O10: a step is a reaction to an event, or a completion, or nothing. -/
theorem stepAlwaysAnswersNext : Obligations.StepAlwaysAnswersNext := by
  intro s
  cases hes : s.events with
  | nil =>
    rw [step_nil hes, settle]
    split
    · exact ⟨s, rfl⟩
    · exact completeInFlight_answers s
  | cons e rest =>
    cases hr : s.inReset with
    | false => exact step_running hr hes ▸ reactRunning_answers e _
    | true => exact step_inReset hr hes ▸ reactInReset_answers e _

end Sys2Proof.Machine
end

section
/-! SUPPORT. Bus traffic while a command is in flight: what it can change, why the completion does not see
it, and why BUSY falls within the events to come (spec R71, R75, R85, R91). -/

namespace Sys2Proof.Machine

/-! ### What traffic can change (R85, R91) -/

/-- The parts of the state that traffic can change while a command is in flight: IE, OVR, and the events,
the answer and the count of draws outside the block. -/
structure TrafficPart where
  ie : Bool
  ovr : Bool
  events : List Event
  response : Option BusResponse
  draws : Nat

/-- `s` with those parts replaced. -/
def State.withTraffic (s : State) (x : TrafficPart) : State :=
  { s with ie := x.ie, ovr := x.ovr, events := x.events, response := x.response, draws := x.draws }

/-- The invariant of a running block says nothing of what traffic changes. -/
theorem State.Inv.withTraffic {s : State} (h : s.Inv) (hr : s.inReset = false) (x : TrafficPart) :
    (s.withTraffic x).Inv :=
  { h with heldInReset := held_of_running hr }

/-- Under the invariant a STATUS write while BUSY = 1 has only OVR to clear (R44, R45). -/
theorem clearStatus_of_busy {s : State} (h : s.Inv) (hb : s.busy = true) (w : Word) :
    s.clearStatus w = { s with ovr := s.ovr && !w.getLsbD 3 } := by
  obtain ⟨hdone, herr⟩ := h.busyClear hb
  simp [State.clearStatus, hdone, herr, h.codeWithErr.1 herr]

/-- A legal write while BUSY = 1 changes IE and OVR at most, unless it is a soft reset (R85, R452). -/
theorem writeWindow_of_busy {s : State} (h : s.Inv) (hb : s.busy = true) {g : WindowReg} {w : Word}
    (hsrst : g = .ctrl → w.getLsbD 1 = false) :
    ∃ ie ovr : Bool, s.writeWindow g w = { s with ie := ie, ovr := ovr } := by
  cases g with
  | id | rk | reserved => exact ⟨s.ie, s.ovr, writeWindow_readOnly (by simp) s w⟩
  | ctrl => exact ⟨w.getLsbD 0, s.ovr, writeCtrl_ie (hsrst rfl) s⟩
  | status => exact ⟨s.ie, _, clearStatus_of_busy h hb w⟩
  | cmd => exact ⟨s.ie, true, submit_of_busy hb w⟩
  | painf | r | paX | paY | pjX | pjY | pjZ | v =>
    exact ⟨s.ie, true, (writeWindow_data rfl s w).trans (writeData_of_busy hb _ w)⟩

/-- A write is traffic unless it is a soft reset: a legal write to CTRL with bit 1 = 1 (R452). -/
theorem isTraffic_write_iff (off : BitVec 12) (size : Nat) (w : Word) :
    (Event.write off size w).isTraffic = true ↔
      ¬(legalAccess off size = true ∧ windowAt off.toNat = .ctrl ∧ w.getLsbD 1 = true) := by
  simp only [Event.isTraffic, Bool.not_eq_true', ← Bool.not_eq_true, Bool.and_eq_true, beq_iff_eq,
    and_assoc]

theorem busWrite_traffic {s : State} (h : s.Inv) (hb : s.busy = true) {off : BitVec 12} {size : Nat}
    {w : Word} (ht : (Event.write off size w).isTraffic = true) :
    ∃ x : TrafficPart, x.events = s.events ∧ s.busWrite off size w = s.withTraffic x := by
  cases hl : legalAccess off size with
  | false => exact ⟨⟨s.ie, s.ovr, s.events, some ⟨false, none⟩, s.draws⟩, rfl, busWrite_illegal hl s w⟩
  | true =>
    have hsrst (hg : windowAt off.toNat = .ctrl) : w.getLsbD 1 = false :=
      Bool.eq_false_iff.2 fun hbit => (isTraffic_write_iff off size w).1 ht ⟨hl, hg, hbit⟩
    obtain ⟨ie, ovr, hw⟩ := writeWindow_of_busy h hb hsrst
    refine ⟨⟨ie, ovr, s.events, some ⟨true, none⟩, s.draws⟩, rfl, ?_⟩
    rw [State.busWrite, if_pos hl, hw]
    rfl

/-- Traffic while a command is in flight and the reset input is not asserted changes no more than a
`TrafficPart`. -/
theorem react_traffic {s : State} (h : s.Inv) (hb : s.busy = true) (hr : s.inReset = false) {e : Event}
    (ht : e.isTraffic = true) :
    ∃ x : TrafficPart, x.events = s.events ∧ react e s = .next (s.withTraffic x) := by
  rw [react_running hr]
  cases e with
  | read off size =>
    obtain ⟨r, n, hread⟩ := busRead_frame s off size
    exact ⟨⟨s.ie, s.ovr, s.events, r, n⟩, rfl, congrArg _ hread⟩
  | write off size w =>
    obtain ⟨x, hx, hwrite⟩ := busWrite_traffic h hb ht
    exact ⟨x, hx, congrArg _ hwrite⟩
  | complete => exact absurd ht Bool.false_ne_true
  | resetInput b => exact absurd ht Bool.false_ne_true

/-- A run through traffic only moves to a state with another `TrafficPart`. -/
theorem run_traffic (k : Nat) (rest : List Event) {traffic : List Event}
    (ht : ∀ e ∈ traffic, e.isTraffic = true) {s : State} (h : s.Inv) (hb : s.busy = true)
    (hr : s.inReset = false) (hes : s.events = traffic ++ rest) :
    ∃ x : TrafficPart, x.events = rest ∧
      core.run (traffic.length + k) s = core.run k (s.withTraffic x) := by
  induction traffic generalizing s with
  | nil =>
    exact ⟨⟨s.ie, s.ovr, s.events, s.response, s.draws⟩, hes,
      congrArg (core.run · s) (Nat.zero_add k)⟩
  | cons e traffic ih =>
    obtain ⟨hte, htraffic⟩ := List.forall_mem_cons.1 ht
    obtain ⟨x, hx, hreact⟩ :=
      react_traffic (h.outside (traffic ++ rest) s.response s.draws) hb hr hte
    obtain ⟨y, hy, hrun⟩ := ih htraffic (h.withTraffic hr x) hb hr hx
    refine ⟨y, hy, ?_⟩
    rw [List.length_cons, Nat.add_right_comm, run_succ ((step_cons hes).trans hreact)]
    exact hrun

/-! ### A completion does not see what traffic changes (R74, R91) -/

/-- The same end of one command with and without traffic: success on the same register contents, or the
same error. -/
inductive SameEnd (s : State) (x : TrafficPart) : Result → Result → Prop where
  | success (d : Data) :
      SameEnd s x (.next { s with data := d }.finish) (.next { s.withTraffic x with data := d }.finish)
  | error (e : CmdError) : SameEnd s x (.next (s.raised e)) (.next ((s.withTraffic x).raised e))

section
variable (s : State) (x : TrafficPart)

theorem sameEnd_withPair {body body' : Result} (h : SameEnd s x body body') (k : RPair) :
    SameEnd s x (withPair k s body) (withPair k (s.withTraffic x) body') := by
  cases hk : pairEven k
  · rw [withPair_odd hk, withPair_odd hk]
    exact .error _
  · rw [withPair_even hk, withPair_even hk]
    exact h

theorem sameEnd_writeResidue (rd : RReg) (r : Nat) :
    SameEnd s x (s.writeResidue rd r) ((s.withTraffic x).writeResidue rd r) := .success _

theorem sameEnd_ite {c : Prop} [Decidable c] {a b a' b' : Result} (ha : SameEnd s x a a')
    (hb : SameEnd s x b b') : SameEnd s x (if c then a else b) (if c then a' else b') := by
  split
  · exact ha
  · exact hb

theorem sameEnd_modular (rd rs3 : RReg) (f : Nat → Nat) :
    SameEnd s x (modular rd rs3 f s) (modular rd rs3 f (s.withTraffic x)) :=
  sameEnd_ite s x (.error .divZero) (sameEnd_writeResidue s x rd _)

theorem sameEnd_blockCommand (rd rs1 : RReg) (f : Vector Word 32 → BitVec 128 → BitVec 128) :
    SameEnd s x (blockCommand rd rs1 f s) (blockCommand rd rs1 f (s.withTraffic x)) :=
  sameEnd_ite s x (.success _) (.error .noKey)

theorem sameEnd_minv (rd rs1 rs3 : RReg) :
    SameEnd s x (execMinv rd rs1 rs3 s) (execMinv rd rs1 rs3 (s.withTraffic x)) :=
  sameEnd_ite s x (.error .invZero) (sameEnd_modular s x rd rs3 _)

theorem sameEnd_finv (rd rs1 : RReg) :
    SameEnd s x (execFinv rd rs1 s) (execFinv rd rs1 (s.withTraffic x)) :=
  sameEnd_ite s x (.error .invZero) (.success _)

theorem sameEnd_pst (rdp : RPair) (ps1 : PReg) :
    SameEnd s x (execPst rdp ps1 s) (execPst rdp ps1 (s.withTraffic x)) := by
  refine sameEnd_withPair s x ?_ rdp
  rw [show (s.withTraffic x).readA ps1 = s.readA ps1 from rfl]
  split
  · exact .success _
  · exact .success _

/-- Every command ends the same with and without traffic: it reads the snapshot and the live registers
only (R14, R74). -/
theorem sameEnd_exec (i : Instr) : SameEnd s x (exec i s) (exec i (s.withTraffic x)) := by
  cases i with
  | nop | mov | ldc | ldi | add | sub | cmp | bitlen | getbit | shl1 | shr1 | and => exact .success _
  | pld | pinf | pldg | pchk | peq | jfrom => exact .success _
  | sm3init | sm3rd | sm3wr | sm4key => exact .success _
  | pneg | padd | pdbl | pmul | jtoa | jdbl | jaddm => exact .success _
  | sm4t | sm4tk | sm4sb | sm4l | sm4lk => exact .success _
  | mul | sqr | sm3cf => exact sameEnd_withPair s x (.success _) _
  | madd | msub | mmul | msqr | mpow => exact sameEnd_modular s x _ _ _
  | minv => exact sameEnd_minv s x _ _ _
  | mred => exact sameEnd_withPair s x (sameEnd_modular s x _ _ _) _
  | fred => exact sameEnd_withPair s x (sameEnd_writeResidue s x _ _) _
  | fadd | fsub | fmul | fsqr | fneg | fnorm => exact sameEnd_writeResidue s x _ _
  | finv => exact sameEnd_finv s x _ _
  | pst => exact sameEnd_pst s x _ _
  | sm4enc | sm4dec => exact sameEnd_blockCommand s x _ _ _

/-- The command in flight ends the same with and without traffic, an illegal word included (R74, R113). -/
theorem sameEnd_completeInFlight {f : InFlight} (hf : s.inflight = some f) :
    SameEnd s x (completeInFlight s) (completeInFlight (s.withTraffic x)) := by
  have hf' : (s.withTraffic x).inflight = some f := hf
  cases hd : decodeWord f.word with
  | error r =>
    rw [completeInFlight_illegal hf hd, completeInFlight_illegal hf' hd]
    exact .error _
  | ok i =>
    rw [completeInFlight_decoded hf hd, completeInFlight_decoded hf' hd]
    exact sameEnd_exec s x i

end

/-- Under the invariant BUSY = 1 means that a command is in flight (R43, R52). -/
theorem State.Inv.inflight_of_busy {s : State} (h : s.Inv) (hb : s.busy = true) :
    ∃ f, s.inflight = some f :=
  Option.isSome_iff_exists.1 (h.busyInFlight.symm.trans hb)

/-- A completion event that comes last is a run of one step. -/
theorem run_one_complete {s t : State} (hr : s.inReset = false) (hes : s.events = [.complete])
    (hc : completeInFlight { s with events := [] } = .next t) : core.run 1 s = .next t :=
  run_succ ((step_running hr hes).trans hc) 0

/-- The two ends agree in the registers and in everything a command writes. -/
theorem SameEnd.agree {s : State} {x : TrafficPart} {a b : Result} (h : SameEnd s x a b) :
    ∃ t u, b = .next t ∧ a = .next u ∧ t.data = u.data ∧ t.cmd = u.cmd ∧ t.err = u.err ∧
      t.errcode = u.errcode ∧ t.busy = u.busy ∧ t.done = u.done := by
  cases h with
  | success d => exact ⟨_, _, rfl, rfl, rfl, rfl, rfl, rfl, rfl, rfl⟩
  | error e => exact ⟨_, _, rfl, rfl, rfl, rfl, rfl, rfl, rfl, rfl⟩

/-- Settles O14: the run through the traffic changes a `TrafficPart`, which the completion does not see. -/
theorem trafficCannotChangeAcceptedCommand : Obligations.TrafficCannotChangeAcceptedCommand := by
  intro s traffic h hb hr ht
  obtain ⟨x, hx, hrun⟩ := run_traffic 1 [.complete] ht
    (h.outside (traffic ++ [.complete]) s.response s.draws) hb hr rfl
  obtain ⟨f, hf⟩ := h.inflight_of_busy hb
  obtain ⟨t, u, hwith, hwithout, hagree⟩ :=
    (sameEnd_completeInFlight { s with events := [] } { x with events := [] } hf).agree
  exact ⟨t, u, hrun.trans (run_one_complete hr hx hwith), run_one_complete hr rfl hwithout, hagree⟩

/-! ### BUSY falls within the events to come (R75) -/

/-- A state in which an accepted command has left BUSY, by its completion or by a reset. -/
def State.Released (t : State) : Prop := t.busy = false ∧ (t.done = true ∨ t = t.resetBlock)

/-- While the reset input is asserted the block is idle (R450). -/
theorem State.Inv.running_of_busy {s : State} (h : s.Inv) (hb : s.busy = true) : s.inReset = false := by
  by_contra hr
  have hbusy : s.busy = false := congrArg State.busy (h.heldInReset (by simpa using hr))
  exact absurd (hbusy.symm.trans hb) (by decide)

theorem completion_of_inflight {s : State} {f : InFlight} (hf : s.inflight = some f) :
    Completion s (completeInFlight s) := by
  cases hd : decodeWord f.word with
  | error r =>
    rw [completeInFlight_illegal hf hd]
    exact .error _
  | ok i =>
    rw [completeInFlight_decoded hf hd]
    exact exec_completion i s

/-- A completion releases the block (R43, R44, R74). -/
theorem Completion.released {s : State} {r : Result} (h : Completion s r) :
    ∃ t, r = .next t ∧ t.Released := by
  cases h with
  | success d keys => exact ⟨_, rfl, rfl, .inl rfl⟩
  | error e => exact ⟨_, rfl, rfl, .inl rfl⟩

/-- A soft reset releases the block (R452, R453). -/
theorem busWrite_srst_released {off : BitVec 12} {size : Nat} {w : Word}
    (ht : ¬(Event.write off size w).isTraffic = true) (s : State) : (s.busWrite off size w).Released := by
  obtain ⟨hl, hg, hbit⟩ := not_not.1 (ht ∘ (isTraffic_write_iff off size w).2)
  have hwrite : s.busWrite off size w = s.resetBlock.answer true none := by
    rw [State.busWrite, if_pos hl, hg]
    exact congrArg (State.answer · true none) (writeCtrl_srst hbit s)
  rw [hwrite]
  exact ⟨rfl, .inr rfl⟩

/-- An event while a command is in flight releases the block or leaves the command in flight. -/
theorem react_of_busy {s : State} (h : s.Inv) (hb : s.busy = true) (e : Event) :
    ∃ t, react e s = .next t ∧ (t.Released ∨ t.Inv ∧ t.busy = true ∧ t.events = s.events) := by
  have hr := h.running_of_busy hb
  by_cases ht : e.isTraffic = true
  · obtain ⟨x, hx, hreact⟩ := react_traffic h hb hr ht
    exact ⟨_, hreact, .inr ⟨h.withTraffic hr x, hb, hx⟩⟩
  rw [react_running hr]
  cases e with
  | read off size => exact absurd rfl ht
  | write off size w => exact ⟨_, rfl, .inl (busWrite_srst_released ht s)⟩
  | complete =>
    obtain ⟨f, hf⟩ := h.inflight_of_busy hb
    obtain ⟨t, hc, hreleased⟩ := (completion_of_inflight hf).released
    exact ⟨t, hc, .inl hreleased⟩
  | resetInput asserted =>
    cases asserted with
    | true => exact ⟨_, rfl, .inl ⟨rfl, .inr rfl⟩⟩
    | false => exact ⟨s, congrArg _ (if_neg (by simp [hr])), .inr ⟨h, hb, rfl⟩⟩

/-- With no event to come the step completes the command in flight (R75). -/
theorem settle_of_busy {s : State} (h : s.Inv) (hb : s.busy = true) :
    ∃ t, settle s = .next t ∧ t.Released := by
  obtain ⟨f, hf⟩ := h.inflight_of_busy hb
  rw [settle_running (h.running_of_busy hb)]
  exact (completion_of_inflight hf).released

/-- Settles O13: by induction on the events to come, each of which releases the block or leaves the command
in flight with one event fewer. -/
theorem acceptedCommandCompletes : Obligations.AcceptedCommandCompletes := by
  intro s h hb
  generalize hes : s.events = es
  induction es generalizing s with
  | nil =>
    obtain ⟨t, hs, hreleased⟩ := settle_of_busy h hb
    exact ⟨1, t, Nat.one_pos, le_rfl, run_succ ((step_nil hes).trans hs) 0, hreleased⟩
  | cons e rest ih =>
    obtain ⟨t, hreact, hreleased | ⟨ht, htb, hrest⟩⟩ :=
      react_of_busy (h.outside rest s.response s.draws) hb e
    · exact ⟨1, t, Nat.one_pos, by simp, run_succ ((step_cons hes).trans hreact) 0, hreleased⟩
    · obtain ⟨n, u, -, hn, hrun, hreleased⟩ := ih t ht htb hrest
      refine ⟨n + 1, u, n.succ_pos, Nat.succ_le_succ hn, ?_, hreleased⟩
      exact (run_succ ((step_cons hes).trans hreact) n).trans hrun

end Sys2Proof.Machine
end

section
/-! SUPPORT. The opcode map as the decoder uses it: its opcodes, the mask test of a row as the conditions on
the fields, and the two directions of the round trip between commands and words (spec R100 to R112). -/

namespace Sys2Proof

/-! ### The opcodes of the table (R105, R107) -/

/-- The OP values of the rows. -/
def opcodes : List Nat := opcodeTable.map fun row => (opOf row.mtch).toNat

/-- In the order of the table the OP values are the ranges that R107 leaves. -/
theorem opcodes_eq :
    opcodes = List.range' 0x00 4 ++ List.range' 0x10 10 ++ List.range' 0x20 7 ++ List.range' 0x30 8 ++
      List.range' 0x40 14 ++ List.range' 0x50 4 ++ List.range' 0x60 8 := by decide

theorem opcodes_nodup : opcodes.Nodup := by
  rw [opcodes_eq]
  decide

/-- Two rows with one OP are one row (R104). -/
theorem row_eq_of_op_eq {row row' : Row} (h : row ∈ opcodeTable) (h' : row' ∈ opcodeTable)
    (hop : opOf row.mtch = opOf row'.mtch) : row = row' :=
  List.inj_on_of_nodup_map opcodes_nodup h h' (congrArg BitVec.toNat hop)

theorem rowOf_eq_some_iff {w : Word} {row : Row} :
    rowOf w = some row ↔ row ∈ opcodeTable ∧ opOf row.mtch = opOf w := by
  refine ⟨rowOf_mem, fun ⟨hmem, hop⟩ => ?_⟩
  cases hr : rowOf w with
  | none => exact absurd hop (by simpa using List.find?_eq_none.1 hr row hmem)
  | some row' =>
    obtain ⟨hmem', hop'⟩ := rowOf_mem hr
    rw [row_eq_of_op_eq hmem hmem' (hop.trans hop'.symm)]

/-- A word has no row exactly when its OP is in no row (R107). -/
theorem rowOf_eq_none_iff (w : Word) : rowOf w = none ↔ (opOf w).toNat ∉ opcodes := by
  simp [rowOf, opcodes, List.find?_eq_none, BitVec.toNat_inj]

/-! ### The mask test as conditions on the fields (R103, R104) -/

/-- The bits of a 4-bit field that a row's mask tests (R103). -/
def FieldUse.mask : FieldUse → BitVec 4
  | .unused => 15
  | .pair => 1
  | .point => 12
  | .reg | .romIndex | .imm8 => 0

/-- The bits of the IMM field that a row's mask tests (R103). -/
def FieldUse.maskImm : FieldUse → BitVec 8
  | .unused => 255
  | .romIndex => 248
  | .reg | .pair | .point | .imm8 => 0

/-- The masks and matches of R105 are those of the rows' field uses. -/
theorem mask_mtch_of_mem {row : Row} (h : row ∈ opcodeTable) :
    row.mask = cmdWord 0xFF row.uses.rd.mask row.uses.rs1.mask row.uses.rs2.mask row.uses.rs3.mask
        row.uses.imm.maskImm ∧
      row.mtch = cmdWord (opOf row.mtch) 0 0 0 0 0 := by
  revert row
  decide

theorem FieldUse.and_mask_iff (u : FieldUse) (f : BitVec 4) : f &&& u.mask = 0 ↔ u.breach f = none := by
  cases u <;> revert f <;> decide

theorem FieldUse.and_maskImm_iff (u : FieldUse) (f : BitVec 8) :
    f &&& u.maskImm = 0 ↔ u.breachImm f = none := by
  cases u <;> revert f <;> decide

/-- No field breaches R103. -/
def FieldUses.Admits (u : FieldUses) (rd rs1 rs2 rs3 : BitVec 4) (imm : BitVec 8) : Prop :=
  u.rd.breach rd = none ∧ u.rs1.breach rs1 = none ∧ u.rs2.breach rs2 = none ∧
    u.rs3.breach rs3 = none ∧ u.imm.breachImm imm = none

/-- A row accepts the words with its OP whose fields its uses admit (R103, R104). -/
theorem and_mask_eq_mtch_iff {row : Row} (h : row ∈ opcodeTable) (w : Word) :
    w &&& row.mask = row.mtch ↔ opOf row.mtch = opOf w ∧
      row.uses.Admits (rdOf w) (rs1Of w) (rs2Of w) (rs3Of w) (immOf w) := by
  obtain ⟨hmask, hmtch⟩ := mask_mtch_of_mem h
  have hop : opOf w &&& 0xFF = opOf w := BitVec.and_allOnes
  rw [hmask, hmtch, and_mask_eq_iff]
  simp only [opOf_cmdWord, rdOf_cmdWord, rs1Of_cmdWord, rs2Of_cmdWord, rs3Of_cmdWord, immOf_cmdWord,
    hop, FieldUse.and_mask_iff, FieldUse.and_maskImm_iff, FieldUses.Admits, eq_comm (a := opOf w)]

/-- At most one row accepts a word, and then it is the row with the word's OP (R104). -/
theorem rowOf_of_match {w : Word} {row : Row} (h : row ∈ opcodeTable) (hm : w &&& row.mask = row.mtch) :
    rowOf w = some row :=
  rowOf_eq_some_iff.2 ⟨h, ((and_mask_eq_mtch_iff h w).1 hm).1⟩

/-- Settles O3: the row of a word is the only one that can accept it. -/
theorem matchingRowDecodes : Obligations.MatchingRowDecodes := by
  intro w row hmem hm
  have hrow := rowOf_of_match hmem hm
  have honly (r : Row) : r ∈ opcodeTable.filter (fun r => w &&& r.mask == r.mtch) ↔ r ∈ [row] := by
    rw [List.mem_filter, beq_iff_eq, List.mem_singleton]
    constructor
    · rintro ⟨hr, hrm⟩
      exact Option.some.inj ((rowOf_of_match hr hrm).symm.trans hrow)
    · rintro rfl
      exact ⟨hmem, hm⟩
  have hnodup := (opcodes_nodup.of_map _).filter (fun r => w &&& r.mask == r.mtch)
  exact ⟨List.perm_singleton.1 ((List.perm_ext_iff_of_nodup hnodup (List.nodup_singleton row)).2 honly),
    decodeWord_of_row hrow hm⟩

/-! ### Rejected words (R107, R110) -/

theorem decodeWord_of_no_row {w : Word} (h : rowOf w = none) : decodeWord w = .error .reservedOp := by
  simp only [decodeWord, h]

theorem decodeWord_of_mismatch {w : Word} {row : Row} (h : rowOf w = some row)
    (hm : w &&& row.mask ≠ row.mtch) : decodeWord w = .error (row.rejection w) := by
  simp only [decodeWord, h, hm, if_false]

theorem FieldUse.breach_ne_reservedOp (u : FieldUse) (f : BitVec 4) : u.breach f ≠ some .reservedOp := by
  cases u <;> revert f <;> decide

theorem FieldUse.breachImm_ne_reservedOp (u : FieldUse) (f : BitVec 8) :
    u.breachImm f ≠ some .reservedOp := by
  cases u <;> revert f <;> decide

theorem orElse_ne_some {a b : Option Reject} {e : Reject} (ha : a ≠ some e) (hb : b ≠ some e) :
    (a.orElse fun _ => b) ≠ some e := by
  cases a with
  | none => exact hb
  | some _ => exact ha

/-- A word with a row is rejected for a field (R110). -/
theorem Row.rejection_ne_reservedOp (row : Row) (w : Word) : row.rejection w ≠ .reservedOp := by
  have hfields := orElse_ne_some (row.uses.rd.breach_ne_reservedOp (rdOf w)) <|
    orElse_ne_some (row.uses.rs1.breach_ne_reservedOp (rs1Of w)) <|
    orElse_ne_some (row.uses.rs2.breach_ne_reservedOp (rs2Of w)) <|
    orElse_ne_some (row.uses.rs3.breach_ne_reservedOp (rs3Of w)) <|
    row.uses.imm.breachImm_ne_reservedOp (immOf w)
  intro hrej
  rcases Option.getD_eq_iff.1 hrej with hsome | ⟨-, hdefault⟩
  · exact hfields hsome
  · cases hdefault

theorem decodeWord_reservedOp_iff (w : Word) : decodeWord w = .error .reservedOp ↔ rowOf w = none := by
  refine ⟨fun h => ?_, decodeWord_of_no_row⟩
  by_contra hsome
  obtain ⟨row, hrow⟩ := Option.ne_none_iff_exists'.1 hsome
  by_cases hm : w &&& row.mask = row.mtch
  · rw [decodeWord_of_row hrow hm] at h
    cases h
  · rw [decodeWord_of_mismatch hrow hm] at h
    exact row.rejection_ne_reservedOp w (Except.error.inj h)

/-- Settles O4: the mask test field by field, and the opcodes of the table. -/
theorem masksTestFieldUses : Obligations.MasksTestFieldUses := by
  refine ⟨fun w row hmem hop => ?_, fun w => ?_⟩
  · rw [and_mask_eq_mtch_iff hmem, FieldUses.Admits]
    exact and_iff_right hop
  · rw [decodeWord_reservedOp_iff, rowOf_eq_none_iff, opcodes_eq]
    simp only [List.mem_append, List.mem_range'_1]
    omega

/-- A word spells no command exactly when no row accepts it (R110). -/
theorem decodeWord_error_iff (w : Word) :
    (∃ e, decodeWord w = .error e) ↔ ∀ row ∈ opcodeTable, w &&& row.mask ≠ row.mtch := by
  constructor
  · rintro ⟨e, he⟩ row hmem hm
    rw [decodeWord_of_row (rowOf_of_match hmem hm) hm] at he
    cases he
  · intro hnone
    cases hd : decodeWord w with
    | error e => exact ⟨e, rfl⟩
    | ok i =>
      obtain ⟨row, hrow, hm, -⟩ := row_of_decodeWord hd
      exact absurd hm (hnone row (rowOf_mem hrow).1)

/-! ### From words to commands and back (R112) -/

/-- The 4-bit field that encodes the operand read from the field `f`. -/
def FieldUse.respelled (u : FieldUse) (f : BitVec 4) : BitVec 4 :=
  match u with
  | .unused => 0
  | .reg | .pair => fld (Sys2Proof.reg f).val
  | .point => fld (pt f).val
  | .romIndex | .imm8 => f

/-- The IMM field that encodes the operand read from the field `f`. -/
def FieldUse.respelledImm (u : FieldUse) (f : BitVec 8) : BitVec 8 :=
  match u with
  | .unused => 0
  | .romIndex => BitVec.ofNat 8 (Fin.ofNat 8 f.toNat).val
  | .reg | .pair | .point | .imm8 => f

theorem FieldUse.respelled_eq {u : FieldUse} {f : BitVec 4} (h : u.breach f = none) :
    u.respelled f = f := by
  cases u with
  | unused =>
    revert f
    decide
  | reg | pair => exact fld_reg f
  | point => exact fld_pt ((FieldUse.and_mask_iff .point f).2 h)
  | romIndex | imm8 => rfl

theorem FieldUse.respelledImm_eq {u : FieldUse} {f : BitVec 8} (h : u.breachImm f = none) :
    u.respelledImm f = f := by
  cases u with
  | unused | romIndex =>
    revert f
    decide
  | reg | pair | point | imm8 => rfl

/-- The pair field of a row holds an even number, if the row has one; it is RD or RS1 (R101, R103). -/
def Row.pairIsEven (row : Row) (w : Word) : Bool :=
  match row.uses.rd, row.uses.rs1 with
  | .pair, _ => pairEven (reg (rdOf w))
  | _, .pair => pairEven (reg (rs1Of w))
  | _, _ => true

/-- The opcode map row by row: a row's command is well-formed when the row's pair is even, and the encoder
writes the operand read from a field back to that field (R33, R100, R103, R105). -/
theorem wf_encode_build {row : Row} (h : row ∈ opcodeTable) (w : Word) :
    (row.build w).wf = row.pairIsEven w ∧
      encode (row.build w) =
        cmdWord (opOf row.mtch) (row.uses.rd.respelled (rdOf w)) (row.uses.rs1.respelled (rs1Of w))
          (row.uses.rs2.respelled (rs2Of w)) (row.uses.rs3.respelled (rs3Of w))
          (row.uses.imm.respelledImm (immOf w)) := by
  revert row
  simp only [opcodeTable, rowsMove, rowsBigInt, rowsModular, rowsField, rowsPoint, rowsSm3, rowsSm4,
    List.cons_append, List.nil_append, List.forall_mem_cons, List.not_mem_nil, false_imp_iff,
    implies_true, and_true]
  and_intros <;> rfl

theorem pairEven_reg {f : BitVec 4} (h : FieldUse.pair.breach f = none) : pairEven (reg f) = true := by
  rw [← fld_and_one, fld_reg]
  exact (FieldUse.and_mask_iff .pair f).2 h

theorem Row.pairIsEven_of_admits {row : Row} {w : Word}
    (h : row.uses.Admits (rdOf w) (rs1Of w) (rs2Of w) (rs3Of w) (immOf w)) : row.pairIsEven w = true := by
  obtain ⟨hrd, hrs1, -⟩ := h
  unfold Row.pairIsEven
  split
  next hpair => exact pairEven_reg (hpair ▸ hrd)
  next hpair _ => exact pairEven_reg (hpair ▸ hrs1)
  next => rfl

/-- Settles O2: the row that accepts the word admits its fields, so each is written back as it was read. -/
theorem encodeInvertsDecode : Obligations.EncodeInvertsDecode := by
  intro w i hd
  obtain ⟨row, hrow, hm, rfl⟩ := row_of_decodeWord hd
  have hmem := (rowOf_mem hrow).1
  obtain ⟨hop, hadmits⟩ := (and_mask_eq_mtch_iff hmem w).1 hm
  obtain ⟨hwf, hencode⟩ := wf_encode_build hmem w
  refine ⟨hwf.trans (Row.pairIsEven_of_admits hadmits), ?_⟩
  obtain ⟨hrd, hrs1, hrs2, hrs3, himm⟩ := hadmits
  rw [hencode, hop, FieldUse.respelled_eq hrd, FieldUse.respelled_eq hrs1,
    FieldUse.respelled_eq hrs2, FieldUse.respelled_eq hrs3, FieldUse.respelledImm_eq himm, cmdWord_fields]

/-! ### From commands to words and back (R104, R112) -/

theorem breach_pair {k : RPair} (h : pairEven k = true) : FieldUse.pair.breach (fld k.val) = none :=
  (FieldUse.and_mask_iff .pair _).1 ((fld_and_one k).2 h)

theorem breach_point (k : PReg) : FieldUse.point.breach (fld k.val) = none :=
  (FieldUse.and_mask_iff .point _).1 (fld_and_twelve k)

theorem breachImm_romIndex (k : RomIndex) :
    FieldUse.romIndex.breachImm (BitVec.ofNat 8 k.val) = none :=
  (FieldUse.and_maskImm_iff .romIndex _).1 (romField_and k)

/-- A word put together from fields that the row of its OP admits spells the row's command. -/
theorem decodeWord_cmdWord {op : BitVec 8} {rd rs1 rs2 rs3 : BitVec 4} {imm : BitVec 8} {row : Row}
    {i : Instr} (hrow : opcodeTable.find? (fun row => opOf row.mtch == op) = some row)
    (hadmits : row.uses.Admits rd rs1 rs2 rs3 imm)
    (hbuild : row.build (cmdWord op rd rs1 rs2 rs3 imm) = i) :
    decodeWord (cmdWord op rd rs1 rs2 rs3 imm) = .ok i := by
  have hrow' : rowOf (cmdWord op rd rs1 rs2 rs3 imm) = some row := by
    rwa [rowOf, opOf_cmdWord]
  obtain ⟨hmem, hop⟩ := rowOf_mem hrow'
  rw [← hbuild]
  refine decodeWord_of_row hrow' ((and_mask_eq_mtch_iff hmem _).2 ⟨hop, ?_⟩)
  rwa [rdOf_cmdWord, rs1Of_cmdWord, rs2Of_cmdWord, rs3Of_cmdWord, immOf_cmdWord]

/-- The commands by the fields that R103 restricts: none, the ROM index, a pair, points. -/
theorem decodeWord_encode {i : Instr} (h : i.wf = true) : decodeWord (encode i) = .ok i := by
  cases i with
  | nop | mov | ldi | add | sub | cmp | bitlen | getbit | shl1 | shr1 | and | madd | msub | mmul | msqr
  | minv | mpow | fadd | fsub | fmul | fsqr | fneg | finv | fnorm | sm3init | sm3rd | sm3wr | sm4key
  | sm4enc | sm4dec | sm4t | sm4tk | sm4sb | sm4l | sm4lk =>
    exact decodeWord_cmdWord rfl ⟨rfl, rfl, rfl, rfl, rfl⟩ (by simp)
  | ldc => exact decodeWord_cmdWord rfl ⟨rfl, rfl, rfl, rfl, breachImm_romIndex _⟩ (by simp)
  | mul | sqr => exact decodeWord_cmdWord rfl ⟨breach_pair h, rfl, rfl, rfl, rfl⟩ (by simp)
  | mred | fred | sm3cf => exact decodeWord_cmdWord rfl ⟨rfl, breach_pair h, rfl, rfl, rfl⟩ (by simp)
  | pst => exact decodeWord_cmdWord rfl ⟨breach_pair h, breach_point _, rfl, rfl, rfl⟩ (by simp)
  | pld | pinf | pldg => exact decodeWord_cmdWord rfl ⟨breach_point _, rfl, rfl, rfl, rfl⟩ (by simp)
  | pchk => exact decodeWord_cmdWord rfl ⟨rfl, breach_point _, rfl, rfl, rfl⟩ (by simp)
  | peq => exact decodeWord_cmdWord rfl ⟨rfl, breach_point _, breach_point _, rfl, rfl⟩ (by simp)
  | pneg | pdbl | pmul | jfrom | jtoa | jdbl =>
    exact decodeWord_cmdWord rfl ⟨breach_point _, breach_point _, rfl, rfl, rfl⟩ (by simp)
  | padd | jaddm =>
    exact decodeWord_cmdWord rfl ⟨breach_point _, breach_point _, breach_point _, rfl, rfl⟩ (by simp)

/-- Decoding the bytes of a word is decoding the word (R77, R100). -/
theorem decode_bytesOfWord {w : Word} {i : Instr} (h : decodeWord w = .ok i) (rest : List Byte) :
    decode (bytesOfWord w ++ rest) = .ok (i, rest) := by
  simp only [bytesOfWord, List.cons_append, List.nil_append, decode, wordOfBytes_bytesOfWord, h]

/-- Settles O1: command by command, by the row with the command's OP. -/
theorem decodeInvertsEncode : Obligations.DecodeInvertsEncode := by
  intro i h
  exact ⟨decodeWord_encode h, decode_bytesOfWord (decodeWord_encode h)⟩

/-- Settles O6: the decoder is evaluated. -/
theorem workedEncodings : Obligations.WorkedEncodings := by
  unfold Obligations.WorkedEncodings
  decide

end Sys2Proof

namespace Sys2Proof.Machine

/-- Settles O5: a word that no row accepts decodes to no command, and its completion raises ILLEGAL. -/
theorem illegalWordCompletesWithIllegal : Obligations.IllegalWordCompletesWithIllegal := by
  refine ⟨decodeWord_error_iff, fun s w hbusy herr => ?_, fun s f hf hnone => ?_⟩
  · rw [submit_eq, if_pos ⟨hbusy, herr⟩]
    rfl
  · obtain ⟨e, he⟩ := (decodeWord_error_iff f.word).2 hnone
    exact ⟨_, completeInFlight_illegal hf he, fails_raised .illegal s⟩

end Sys2Proof.Machine
end

section
/-! SUPPORT. The mask test passed by an encoded command, and the commands that move values between operand
registers and load constants (spec R51, R104, R105, R130 to R133). -/

namespace Sys2Proof

/-- An encoded command passes the mask test of the row with its OP (R104, R105). -/
theorem encode_and_mask {i : Instr} {op : BitVec 8} {mask mtch : Word} (hwf : i.wf = true)
    (hop : opOf (encode i) = op)
    (hrow : (opcodeTable.find? fun row => opOf row.mtch == op).map (fun row => (row.mask, row.mtch)) =
      some (mask, mtch)) :
    encode i &&& mask = mtch := by
  obtain ⟨row, hfind, hmatch, -⟩ := row_of_decodeWord (decodeWord_encode hwf)
  rw [rowOf, hop] at hfind
  rw [hfind, Option.map_some, Option.some.injEq, Prod.mk.injEq] at hrow
  obtain ⟨rfl, rfl⟩ := hrow
  exact hmatch

end Sys2Proof

namespace Sys2Proof.Machine

/-- A command that only writes one operand register: the value, the frame, the flags kept. -/
theorem succeed_writeR_spec (s : State) (rd : RReg) (v : W256) :
    ∃ t, succeed (s.writeR rd v) = .next t ∧ WritesR s t [rd] ∧ KeepsFlags s t ∧ t.data.r[rd] = v :=
  ⟨_, rfl, writesR_one s rd v s.data.c s.data.z s.data.t, ⟨rfl, rfl, rfl⟩, vset_same _ _ _⟩

/-- The ROM entries as numbers; each is below 2^256 (R51). -/
theorem rom_toNat (k : RomIndex) :
    (rom k).toNat =
      [Config.SM2_p, Config.SM2_a, Config.SM2_b, Config.SM2_n, Config.SM2_Gx, Config.SM2_Gy,
        Config.SM2_p - 2, Config.SM2_n - 2].getD k.val 0 := by
  revert k
  decide

theorem zext8_toNat (imm : Imm8) : (zext8 imm).toNat = imm.toNat :=
  BitVec.toNat_setWidth_of_le (by decide)

/-- Settles O26: NOP succeeds on the unchanged registers, the other three end by writing one register. -/
theorem movesAndConstants : Obligations.MovesAndConstants := by
  intro s
  refine ⟨?nop, fun rd rs1 => ⟨encode_and_mask rfl (opOf_cmdWord ..) rfl, ?mov⟩,
    fun rd k => ⟨encode_and_mask rfl (opOf_cmdWord ..) rfl, ?ldc⟩,
    fun rd imm => ⟨encode_and_mask rfl (opOf_cmdWord ..) rfl, ?ldi⟩⟩
  case nop =>
    exact ⟨_, rfl, writesR_none s s.data.c s.data.z s.data.t, ⟨rfl, rfl, rfl⟩, rfl⟩
  case mov => exact succeed_writeR_spec s rd (s.readR rs1)
  case ldc =>
    obtain ⟨t, hexec, hframe, hflags, hval⟩ := succeed_writeR_spec s rd (rom k)
    exact ⟨t, hexec, hframe, hflags, hval ▸ rom_toNat k⟩
  case ldi =>
    obtain ⟨t, hexec, hframe, hflags, hval⟩ := succeed_writeR_spec s rd (zext8 imm)
    exact ⟨t, hexec, hframe, hflags, hval ▸ zext8_toNat imm⟩

end Sys2Proof.Machine
end

section
/-! SUPPORT. The 256-bit integer commands: how a command that writes one register or a pair with flags ends,
what each word operation is on the numbers, and the carry chain over the 64-bit limbs (spec R13, R150 to
R161). -/

namespace Sys2Proof.Machine

/-! ### How the integer commands end -/

/-- A command that ends by writing one operand register, C, and Z of the result: the values, the frame, T
kept. With C at its old value it is also the end of a command that keeps C. -/
theorem succeed_result_spec (s : State) (rd : RReg) (v : W256) (c : Bool) :
    ∃ t, succeed (((s.writeR rd v).setC c).setZ (isZero v)) = .next t ∧ WritesR s t [rd] ∧
      t.data.r[rd] = v ∧ t.data.c = c ∧ t.data.z = decide (v.toNat = 0) ∧ t.data.t = s.data.t :=
  ⟨_, rfl, writesR_one s rd v c (isZero v) s.data.t, vset_same _ _ _, rfl, isZero_eq v, rfl⟩

/-- A 512-bit value put together from the halves that a pair write leaves (R33, R152). -/
theorem halves_eq {q : Nat} (hq : q < 2 ^ 512) :
    (BitVec.ofNat 256 (q / 2 ^ 256)).toNat * 2 ^ 256 + (BitVec.ofNat 256 q).toNat = q := by
  simp only [BitVec.toNat_ofNat]
  omega

/-- MUL and SQR end with the exact product in the pair and Z of it, and keep C and T (R152, R153). -/
theorem productTo_spec {rdp : RPair} (hpair : pairEven rdp = true) {q : Nat} (hq : q < 2 ^ 512) (s : State) :
    ∃ t, productTo rdp q s = .next t ∧ WritesR s t [rdp, rdp + 1] ∧
      t.data.r[rdp + 1].toNat * 2 ^ 256 + t.data.r[rdp].toNat = q ∧
      t.data.z = decide (q = 0) ∧ t.data.c = s.data.c ∧ t.data.t = s.data.t := by
  refine ⟨((s.writeProduct rdp q).setZ (natZero q)).finish, withPair_even hpair s _,
    writesR_pair s rdp _ _ s.data.c (natZero q) s.data.t, ?_, rfl, rfl, rfl⟩
  have hlo : ((s.writeProduct rdp q).setZ (natZero q)).finish.data.r[rdp] = BitVec.ofNat 256 q :=
    (vset_other _ _ (pairHigh_ne rdp).symm).trans (vset_same _ _ _)
  have hhi : ((s.writeProduct rdp q).setZ (natZero q)).finish.data.r[rdp + 1] =
      BitVec.ofNat 256 (q / 2 ^ 256) := vset_same _ _ _
  rw [hlo, hhi, halves_eq hq]

/-- The product of two operands fits a pair (R152). -/
theorem natR_mul_lt (s : State) (i j : RReg) : s.natR i * s.natR j < 2 ^ 512 := by
  rw [show 512 = 256 + 256 from rfl, Nat.pow_add]
  exact Nat.mul_lt_mul'' (natR_lt s i) (natR_lt s j)

/-! ### The word operations on the numbers -/

/-- The wrapped difference is the exact difference mod 2^256 (R13, R151). -/
theorem toNat_sub_int (a b : W256) :
    ((a - b).toNat : Int) = ((a.toNat : Int) - (b.toNat : Int)) % 2 ^ 256 := by
  rw [BitVec.toNat_sub]
  omega

/-- Equality of two words, on the numbers (R154). -/
theorem beq_eq_decide_toNat (a b : W256) : (a == b) = decide (a.toNat = b.toNat) := by
  rw [Bool.eq_iff_iff, beq_iff_eq, decide_eq_true_iff, BitVec.toNat_eq]

theorem toNat_shl1 (v : W256) : (v <<< 1).toNat = v.toNat * 2 % 2 ^ 256 := by
  rw [BitVec.toNat_shiftLeft, Nat.shiftLeft_eq, pow_one]

theorem toNat_shr1 (v : W256) : (v >>> 1).toNat = v.toNat / 2 := by
  rw [BitVec.toNat_ushiftRight, Nat.shiftRight_eq_div_pow, pow_one]

/-- A bit length written to a register is read back whole (R155). -/
theorem toNat_bitlen (s : State) (i : RReg) :
    (BitVec.ofNat 256 (bitlen (s.natR i))).toNat = bitlen (s.natR i) :=
  BitVec.toNat_ofNat .. ▸ Nat.mod_eq_of_lt ((bitlen_natR_le s i).trans_lt (by decide))

/-! ### The commands -/

/-- Settles O27: ADD and SUB write the wrapped result, and CMP only the flags. -/
theorem addSubCmpGiveResultsAndFlags : Obligations.AddSubCmpGiveResultsAndFlags := by
  intro rd rs1 rs2 s
  refine ⟨encode_and_mask rfl (opOf_cmdWord ..) rfl, encode_and_mask rfl (opOf_cmdWord ..) rfl,
    encode_and_mask rfl (opOf_cmdWord ..) rfl, ?add, ?sub, ?cmp⟩
  case add =>
    obtain ⟨t, hexec, hframe, hr, hc, hz, ht⟩ := succeed_result_spec s rd
      (s.readR rs1 + s.readR rs2) (addCarry (s.readR rs1) (s.readR rs2))
    rw [BitVec.toNat_add] at hz
    exact ⟨t, hexec, hframe, by rw [hr, BitVec.toNat_add]; rfl, hc, hz, ht⟩
  case sub =>
    obtain ⟨t, hexec, hframe, hr, hc, hz, ht⟩ := succeed_result_spec s rd
      (s.readR rs1 - s.readR rs2) (subBorrow (s.readR rs1) (s.readR rs2))
    have hdiff := toNat_sub_int (s.readR rs1) (s.readR rs2)
    refine ⟨t, hexec, hframe, by rw [hr, hdiff]; rfl, hc, hz.trans (decide_eq_decide.2 ?_), ht⟩
    exact Int.natCast_eq_zero.symm.trans (by rw [hdiff]; rfl)
  case cmp =>
    exact ⟨_, rfl, writesR_none s _ _ s.data.t, subBorrow_eq _ _, beq_eq_decide_toNat _ _, rfl⟩

/-- Settles O28: both commands end by writing a product that fits the pair. -/
theorem mulAndSqrGiveExactProduct : Obligations.MulAndSqrGiveExactProduct := by
  intro rdp rs1 rs2 s hpair
  exact ⟨encode_and_mask hpair (opOf_cmdWord ..) rfl, encode_and_mask hpair (opOf_cmdWord ..) rfl,
    productTo_spec hpair (natR_mul_lt s rs1 rs2) s, productTo_spec hpair (natR_mul_lt s rs1 rs1) s⟩

/-- Settles O30: BITLEN writes the least such L, which fits a register; GETBIT writes T only. -/
theorem bitlenAndGetbitReadBits : Obligations.BitlenAndGetbitReadBits := by
  intro rd rs1 i s
  refine ⟨encode_and_mask rfl (opOf_cmdWord ..) rfl, encode_and_mask rfl (opOf_cmdWord ..) rfl,
    ?bitlen, ?getbit⟩
  case bitlen =>
    refine ⟨_, rfl, writesR_one s rd _ s.data.c _ s.data.t, ?_, fun l hl => ?_, rfl, rfl, rfl⟩ <;>
      simp only [finish_data, setZ_data_r, writeR_data_r, vset_same, toNat_bitlen]
    · exact lt_two_pow_bitlen _
    · exact bitlen_le hl
  case getbit =>
    exact ⟨_, rfl, writesR_none s s.data.c s.data.z _, (BitVec.testBit_toNat _).symm, rfl, rfl⟩

/-- Settles O31: each command writes one register, and AND writes C with its old value. -/
theorem shiftsAndBitwiseAnd : Obligations.ShiftsAndBitwiseAnd := by
  intro rd rs1 rs2 s
  refine ⟨encode_and_mask rfl (opOf_cmdWord ..) rfl, encode_and_mask rfl (opOf_cmdWord ..) rfl,
    encode_and_mask rfl (opOf_cmdWord ..) rfl, ?shl1, ?shr1, ?and⟩
  case shl1 =>
    obtain ⟨t, hexec, hframe, hr, hc, hz, ht⟩ := succeed_result_spec s rd
      (s.readR rs1 <<< 1) ((s.readR rs1).getLsbD 255)
    rw [toNat_shl1] at hz
    exact ⟨t, hexec, hframe, by rw [hr, toNat_shl1]; rfl, hc.trans (BitVec.testBit_toNat _).symm, hz, ht⟩
  case shr1 =>
    obtain ⟨t, hexec, hframe, hr, hc, hz, ht⟩ := succeed_result_spec s rd
      (s.readR rs1 >>> 1) ((s.readR rs1).getLsbD 0)
    rw [toNat_shr1] at hz
    exact ⟨t, hexec, hframe, by rw [hr, toNat_shr1]; rfl, hc.trans (BitVec.testBit_toNat _).symm, hz, ht⟩
  case and =>
    obtain ⟨t, hexec, hframe, hr, hc, hz, ht⟩ := succeed_result_spec s rd
      (s.readR rs1 &&& s.readR rs2) s.data.c
    rw [BitVec.toNat_and] at hz
    exact ⟨t, hexec, hframe, by rw [hr, BitVec.toNat_and]; rfl, hz, hc, ht⟩

/-! ### Limbs and the carries between them (R32, R161) -/

theorem toNat_limb (v : W256) (j : Fin 4) :
    (limb v j).toNat = v.toNat / 2 ^ (64 * j.val) % 2 ^ 64 := by
  rw [limb, BitVec.extractLsb'_toNat, Nat.shiftRight_eq_div_pow]

/-- A 256-bit value is the sum of its limbs at their positions (R32). -/
theorem toNat_eq_sum_limbs (v : W256) :
    v.toNat = ∑ j : Fin 4, (limb v j).toNat * 2 ^ (64 * j.val) := by
  have hv := v.isLt
  simp only [toNat_limb, Fin.sum_univ_four, Fin.val_zero, Fin.val_one, Fin.val_two,
    show (3 : Fin 4).val = 3 from rfl]
  omega

/-- The carry that the sum of the `k` low limbs of `x` and `y` passes on (R161). -/
def limbCarry (x y : W256) (k : Nat) : Nat :=
  (x.toNat % 2 ^ (64 * k) + y.toNat % 2 ^ (64 * k)) / 2 ^ (64 * k)

theorem limbCarry_zero (x y : W256) : limbCarry x y 0 = 0 := by
  simp [limbCarry, Nat.mod_one]

theorem limbCarry_le_one (x y : W256) (k : Nat) : limbCarry x y k ≤ 1 := by
  have hpos : 0 < 2 ^ (64 * k) := by positivity
  have hx := Nat.mod_lt x.toNat hpos
  have hy := Nat.mod_lt y.toNat hpos
  exact Nat.le_of_lt_succ (Nat.div_lt_of_lt_mul (by omega))

/-- The last carry of the chain is the carry of the whole addition (R150, R161). -/
theorem limbCarry_four (x y : W256) : addCarry x y = decide (limbCarry x y 4 = 1) := by
  have hx := x.isLt
  have hy := y.isLt
  rw [addCarry, limbCarry, decide_eq_decide]
  omega

/-- Limb j with the carry into it is what the j + 1 low limbs add up to above position 64j. -/
theorem limbs_add_carry (x y : W256) (j : Fin 4) :
    (x.toNat % 2 ^ (64 * (j.val + 1)) + y.toNat % 2 ^ (64 * (j.val + 1))) / 2 ^ (64 * j.val) =
      (limb x j).toNat + (limb y j).toNat + limbCarry x y j := by
  have hpos : 0 < 2 ^ (64 * j.val) := by positivity
  rw [Nat.mul_succ, Nat.pow_add, Nat.mod_mul, Nat.mod_mul, ← toNat_limb, ← toNat_limb, limbCarry,
    Nat.add_add_add_comm, ← Nat.mul_add, Nat.add_mul_div_left _ _ hpos, Nat.add_comm]

/-- One step of the carry chain: the carry out of limb j (R161). -/
theorem limbCarry_succ (x y : W256) (j : Fin 4) :
    limbCarry x y (j.val + 1) =
      ((limb x j).toNat + (limb y j).toNat + limbCarry x y j) / 2 ^ 64 := by
  rw [← limbs_add_carry, limbCarry, Nat.div_div_eq_div_mul, ← Nat.pow_add, Nat.mul_succ]

/-- One step of the carry chain: limb j of the sum (R161). -/
theorem toNat_limb_add (x y : W256) (j : Fin 4) :
    (limb (x + y) j).toNat =
      ((limb x j).toNat + (limb y j).toNat + limbCarry x y j) % 2 ^ 64 := by
  have hdvd : 2 ^ (64 * (j.val + 1)) ∣ 2 ^ 256 := pow_dvd_pow 2 (by omega)
  have hpow : 2 ^ (64 * (j.val + 1)) = 2 ^ (64 * j.val) * 2 ^ 64 := by rw [Nat.mul_succ, Nat.pow_add]
  calc (limb (x + y) j).toNat
      = (x.toNat + y.toNat) % 2 ^ 256 % 2 ^ (64 * (j.val + 1)) / 2 ^ (64 * j.val) := by
        rw [toNat_limb, BitVec.toNat_add, hpow, Nat.mod_mul_right_div_self]
    _ = (x.toNat % 2 ^ (64 * (j.val + 1)) + y.toNat % 2 ^ (64 * (j.val + 1))) %
          2 ^ (64 * (j.val + 1)) / 2 ^ (64 * j.val) := by
        rw [Nat.mod_mod_of_dvd _ hdvd, Nat.add_mod]
    _ = _ := by
        rw [← limbs_add_carry, ← Nat.mod_mul_right_div_self, ← hpow]

/-! The borrows of `x - y` are the carries of `(x - y) + y`. -/

/-- One step of the borrow chain: the limb of the difference and the borrow out of it (R161). -/
theorem limb_sub_step (x y : W256) (j : Fin 4) :
    ((limb (x - y) j).toNat : Int) =
        (((limb x j).toNat : Int) - (limb y j).toNat - limbCarry (x - y) y j) % 2 ^ 64 ∧
      limbCarry (x - y) y (j.val + 1) =
        if ((limb x j).toNat : Int) - (limb y j).toNat - limbCarry (x - y) y j < 0 then 1 else 0 := by
  have hsum := toNat_limb_add (x - y) y j
  rw [BitVec.sub_add_cancel] at hsum
  have hcarry := limbCarry_succ (x - y) y j
  have hle := limbCarry_le_one (x - y) y (j.val + 1)
  have hlt := (limb (x - y) j).isLt
  split <;> omega

/-- The last borrow of the chain is the borrow of the whole subtraction (R151, R161). -/
theorem limbBorrow_four (x y : W256) : subBorrow x y = decide (limbCarry (x - y) y 4 = 1) := by
  have hx := x.isLt
  have hy := y.isLt
  rw [← limbCarry_four, subBorrow_eq, addCarry, BitVec.toNat_sub, decide_eq_decide]
  omega

/-- The product of two operands is the schoolbook sum of their limb products (R161). -/
theorem toNat_mul_eq_sum_limbs (x y : W256) :
    x.toNat * y.toNat =
      ∑ i : Fin 4, ∑ j : Fin 4, (limb x i).toNat * (limb y j).toNat * 2 ^ (64 * (i.val + j.val)) := by
  rw [toNat_eq_sum_limbs x, toNat_eq_sum_limbs y, Finset.sum_mul_sum]
  refine Finset.sum_congr rfl fun i _ => Finset.sum_congr rfl fun j _ => ?_
  rw [Nat.mul_add, Nat.pow_add, Nat.mul_mul_mul_comm]

/-- Settles O32: the carries are those of the low limbs, and SUB's borrows the carries of adding back. -/
theorem limbChainsGiveTheSameResults : Obligations.LimbChainsGiveTheSameResults := by
  intro rd rs1 rs2 rdp s hpair
  refine ⟨?add, ?sub, ?mul⟩
  case add =>
    obtain ⟨t, hexec, -, hr, hc, -⟩ := succeed_result_spec s rd
      (s.readR rs1 + s.readR rs2) (addCarry (s.readR rs1) (s.readR rs2))
    refine ⟨t, fun k => limbCarry (s.readR rs1) (s.readR rs2) k.val, hexec, limbCarry_zero _ _,
      fun j => ⟨?_, limbCarry_succ _ _ j⟩, hc.trans (limbCarry_four _ _), limbCarry_le_one _ _ _⟩
    rw [hr]
    exact toNat_limb_add _ _ j
  case sub =>
    obtain ⟨t, hexec, -, hr, hc, -⟩ := succeed_result_spec s rd
      (s.readR rs1 - s.readR rs2) (subBorrow (s.readR rs1) (s.readR rs2))
    refine ⟨t, fun k => limbCarry (s.readR rs1 - s.readR rs2) (s.readR rs2) k.val, hexec,
      limbCarry_zero _ _, fun j => ?_, hc.trans (limbBorrow_four _ _)⟩
    rw [hr]
    exact limb_sub_step _ _ j
  case mul =>
    obtain ⟨t, hexec, -, hprod, -⟩ := productTo_spec hpair (natR_mul_lt s rs1 rs2) s
    exact ⟨t, hexec, hprod.trans (toNat_mul_eq_sum_limbs _ _)⟩

end Sys2Proof.Machine
end

section
/-! SUPPORT. The commands with an explicit modulus: the two ways a modular command ends, MINV and the order of
its errors, the accumulator of the exponentiation loop, and Fermat's inverse (spec R180 to R189). -/

namespace Sys2Proof.Machine

/-! ### How the modular commands end (R180, R188, R189) -/

theorem modular_divZero {rs3 : RReg} {s : State} (h : s.natR rs3 = 0) (rd : RReg) (f : Nat → Nat) :
    ∃ t, modular rd rs3 f s = .next t ∧ Fails .divZero s t :=
  ⟨_, modular_zero h rd f, fails_raised .divZero s⟩

/-- With a modulus that the result stays below, a modular command writes the result and Z of it, and keeps
C and T. -/
theorem modular_spec {rs3 : RReg} {s : State} {f : Nat → Nat} (hlt : f (s.natR rs3) < s.natR rs3)
    (rd : RReg) :
    ∃ t, modular rd rs3 f s = .next t ∧ WritesR s t [rd] ∧ t.data.r[rd].toNat = f (s.natR rs3) ∧
      t.data.z = decide (f (s.natR rs3) = 0) ∧ t.data.c = s.data.c ∧ t.data.t = s.data.t := by
  rw [modular_nonzero (Nat.ne_zero_of_lt hlt)]
  exact writeResidue_spec s rd (hlt.trans (natR_lt s rs3))

/-- Both ends of a modular command that computes the residue of the integer `v` (R188). -/
theorem modular_residue {rs3 : RReg} {s : State} {f : Nat → Nat} {v : Int}
    (hf : s.natR rs3 ≠ 0 → (f (s.natR rs3) : Int) = v % s.natR rs3) (rd : RReg) :
    (s.natR rs3 = 0 → ∃ t, modular rd rs3 f s = .next t ∧ Fails .divZero s t) ∧
    (s.natR rs3 ≠ 0 → ∃ t, modular rd rs3 f s = .next t ∧ WritesR s t [rd] ∧
      (t.data.r[rd].toNat : Int) = v % s.natR rs3 ∧ t.data.r[rd].toNat < s.natR rs3 ∧
      t.data.z = decide (v % s.natR rs3 = 0) ∧ t.data.c = s.data.c ∧ t.data.t = s.data.t) := by
  refine ⟨fun h => modular_divZero h rd f, fun h => ?_⟩
  have hres := hf h
  have hlt : f (s.natR rs3) < s.natR rs3 := by
    have := Int.emod_lt_of_pos v (show (0 : Int) < s.natR rs3 by omega)
    omega
  obtain ⟨t, hexec, hframe, hr, hz, hc, ht⟩ := modular_spec hlt rd
  refine ⟨t, hexec, hframe, hr ▸ hres, hr ▸ hlt, hz.trans (decide_eq_decide.2 ?_), hc, ht⟩
  rw [← hres, Int.natCast_eq_zero]

/-- MRED of an even pair is a modular command (R187). -/
theorem exec_mred {rs1p : RPair} (hpair : pairEven rs1p = true) (rd rs3 : RReg) (s : State) :
    exec (.mred rd rs1p rs3) s = modular rd rs3 (s.readPair rs1p % ·) s := withPair_even hpair s _

/-! ### MINV and the order of its errors (R185, R408) -/

theorem execMinv_eq_modular {rs1 rs3 : RReg} {s : State}
    (h : s.natR rs3 = 0 ∨ s.natR rs1 % s.natR rs3 ≠ 0) (rd : RReg) :
    execMinv rd rs1 rs3 s = modular rd rs3 (fun m => mpowCore (s.natR rs1) (m - 2) m) s :=
  if_neg fun ⟨hm, ha⟩ => h.elim hm (· ha)

theorem execMinv_zeroModulus {rs3 : RReg} {s : State} (h : s.natR rs3 = 0) (rd rs1 : RReg) :
    ∃ t, execMinv rd rs1 rs3 s = .next t ∧ Fails .divZero s t := by
  rw [execMinv_eq_modular (.inl h)]
  exact modular_divZero h rd _

theorem execMinv_zeroOperand {rs1 rs3 : RReg} {s : State} (hm : s.natR rs3 ≠ 0)
    (ha : s.natR rs1 % s.natR rs3 = 0) (rd : RReg) :
    ∃ t, execMinv rd rs1 rs3 s = .next t ∧ Fails .invZero s t :=
  ⟨_, if_pos ⟨hm, ha⟩, fails_raised .invZero s⟩

/-- MINV of an operand not 0 modulo m gives a^(m−2) mod m: the exponent is below m, so the core ignores
none of its bits (R185, R186). -/
theorem execMinv_spec {rs1 rs3 : RReg} {s : State} (hm : s.natR rs3 ≠ 0)
    (ha : s.natR rs1 % s.natR rs3 ≠ 0) (rd : RReg) :
    ∃ t, execMinv rd rs1 rs3 s = .next t ∧ WritesR s t [rd] ∧
      t.data.r[rd].toNat = s.natR rs1 ^ (s.natR rs3 - 2) % s.natR rs3 ∧
      t.data.z = decide (s.natR rs1 ^ (s.natR rs3 - 2) % s.natR rs3 = 0) ∧
      t.data.c = s.data.c ∧ t.data.t = s.data.t := by
  have hpow : mpowCore (s.natR rs1) (s.natR rs3 - 2) (s.natR rs3) =
      s.natR rs1 ^ (s.natR rs3 - 2) % s.natR rs3 := mpowCore_of_lt _ (by omega)
  have hlt := hpow ▸ Nat.mod_lt _ (Nat.pos_of_ne_zero hm)
  rw [execMinv_eq_modular (.inr ha), ← hpow]
  exact modular_spec hlt rd

/-- Fermat's little theorem as an inverse: a^(p−2)·a ≡ 1 (mod p) for a prime p that does not divide a. -/
theorem pow_sub_two_mul_mod {p a : Nat} (hp : p.Prime) (ha : a % p ≠ 0) :
    a ^ (p - 2) % p * a % p = 1 := by
  have hcop : a.Coprime p := ((hp.coprime_iff_not_dvd).2 (ha ∘ Nat.mod_eq_zero_of_dvd)).symm
  have htwo := hp.two_le
  calc a ^ (p - 2) % p * a % p
      = a ^ Nat.totient p % p := by
        rw [Nat.mod_mul_mod, ← pow_succ, Nat.totient_prime hp, show p - 2 + 1 = p - 1 by omega]
    _ = 1 % p := Nat.ModEq.pow_totient hcop
    _ = 1 := Nat.mod_eq_of_lt hp.one_lt

/-- Settles O38: MINV's power, inverse to the operand by Fermat's little theorem. -/
theorem minvInvertsForPrimeModulus : Obligations.MinvInvertsForPrimeModulus := by
  intro rd rs1 rs3 s hp ha
  obtain ⟨t, hexec, hframe, hr, -⟩ := execMinv_spec hp.ne_zero ha rd
  refine ⟨t, hexec, hframe, ?_, ?_⟩
  · rw [hr]
    exact pow_sub_two_mul_mod hp ha
  · rw [hr]
    exact Nat.mod_lt _ hp.pos

/-- Settles O37: MINV's three ends, in the order of its checks. -/
theorem minvGivesFermatPower : Obligations.MinvGivesFermatPower := by
  intro rd rs1 rs3 s
  exact ⟨encode_and_mask rfl (opOf_cmdWord ..) rfl, fun hm => execMinv_zeroModulus hm rd rs1,
    fun hm ha => execMinv_zeroOperand hm ha rd, fun hm ha => execMinv_spec hm ha rd⟩

/-! ### The exponentiation loop (R186) -/

/-- The accumulator of MPOW_core once the exponent bits from L−1 down to i are read: a to the power of
those bits. -/
def mpowAcc (a e m i : Nat) : Nat := a ^ (e % 2 ^ bitlen m / 2 ^ i) % m

/-- No bit read: the accumulator's first value. -/
theorem mpowAcc_bitlen (a e m : Nat) : mpowAcc a e m (bitlen m) = 1 % m := by
  rw [mpowAcc, Nat.div_eq_of_lt (Nat.mod_lt _ (by positivity)), pow_zero]

/-- All L bits read: the accumulator's last value is the result of MPOW_core. -/
theorem mpowAcc_zero (a e m : Nat) : mpowAcc a e m 0 = mpowCore a e m := by
  rw [mpowAcc, pow_zero, Nat.div_one, mpowCore_eq]

/-- Reading bit i doubles the part of the exponent read so far and appends the bit. -/
theorem readBits_succ (e : Nat) {l i : Nat} (hi : i < l) :
    e % 2 ^ l / 2 ^ i = e % 2 ^ l / 2 ^ (i + 1) + e % 2 ^ l / 2 ^ (i + 1) + (e.testBit i).toNat := by
  have hbit : e % 2 ^ l / 2 ^ i % 2 = (e.testBit i).toNat := by
    rw [← Nat.toNat_testBit, Nat.testBit_mod_two_pow, decide_eq_true hi, Bool.true_and]
  rw [pow_succ, ← Nat.div_div_eq_div_mul]
  omega

/-- One round of the loop: square, then multiply when the bit is set. -/
theorem mpowAcc_step (a e m : Nat) {i : Nat} (hi : i < bitlen m) :
    mpowAcc a e m i =
      if e.testBit i then mpowAcc a e m (i + 1) * mpowAcc a e m (i + 1) % m * a % m
      else mpowAcc a e m (i + 1) * mpowAcc a e m (i + 1) % m := by
  simp only [mpowAcc, readBits_succ e hi, ← Nat.mul_mod, ← pow_add]
  cases e.testBit i with
  | false => rfl
  | true => rw [if_pos rfl, Nat.mod_mul_mod, ← pow_succ, Bool.toNat_true]

theorem mpowCore_lt (a e : Nat) {m : Nat} (h : m ≠ 0) : mpowCore a e m < m :=
  mpowCore_eq a e m ▸ Nat.mod_lt _ (Nat.pos_of_ne_zero h)

/-- Settles O35: the accumulators meet the loop's equations, and the last one is the result. -/
theorem mpowRunsSquareAndMultiply : Obligations.MpowRunsSquareAndMultiply := by
  intro rd rs1 rs2 rs3 s
  refine ⟨encode_and_mask rfl (opOf_cmdWord ..) rfl, fun hm => modular_divZero hm rd _, fun hm => ?_⟩
  obtain ⟨t, hexec, hframe, hr, hz, hflags⟩ :=
    modular_spec (f := fun m => mpowCore (s.natR rs1) (s.natR rs2) m) (mpowCore_lt _ _ hm) rd
  rw [← mpowAcc_zero] at hr hz
  exact ⟨t, bitlen (s.natR rs3), mpowAcc (s.natR rs1) (s.natR rs2) (s.natR rs3), hexec, hframe,
    lt_two_pow_bitlen _, fun _ => bitlen_le, mpowAcc_bitlen _ _ _, fun _ => mpowAcc_step _ _ _,
    hr, hz, hflags⟩

/-- Settles O36: the closed form of MPOW_core, and its case of an exponent below the modulus. -/
theorem mpowGivesTruncatedPower : Obligations.MpowGivesTruncatedPower := by
  intro rd rs1 rs2 rs3 s hm
  obtain ⟨t, hexec, -, hr, -⟩ :=
    modular_spec (f := fun m => mpowCore (s.natR rs1) (s.natR rs2) m) (mpowCore_lt _ _ hm) rd
  exact ⟨t, bitlen (s.natR rs3), hexec, lt_two_pow_bitlen _, fun _ => bitlen_le,
    hr.trans (mpowCore_eq _ _ _), fun hlt => hr.trans (mpowCore_of_lt _ hlt)⟩

/-! ### Residues -/

/-- Settles O33: all but MINV and MRED are `modular` itself. -/
theorem zeroModulusEndsDivZero : Obligations.ZeroModulusEndsDivZero := by
  intro rd rs1 rs2 rs3 rs1p s i hm hpair hi
  rcases hi with rfl | rfl | rfl | rfl | rfl | rfl | rfl
  iterate 4 exact modular_divZero hm rd _
  · exact execMinv_zeroModulus hm rd rs1
  · exact modular_divZero hm rd _
  · rw [exec_mred hpair]
    exact modular_divZero hm rd _

/-- Settles O34: each command's function is the residue of the exact integer. -/
theorem modularCommandsGiveResidues : Obligations.ModularCommandsGiveResidues := by
  intro rd rs1 rs2 rs3 rs1p s hpair m a b gives
  refine ⟨modular_residue (fun _ => ?madd) rd, modular_residue (subMod_int a b) rd,
    modular_residue (fun _ => ?mmul) rd, modular_residue (fun _ => ?msqr) rd, ?mred,
    encode_and_mask rfl (opOf_cmdWord ..) rfl, encode_and_mask rfl (opOf_cmdWord ..) rfl,
    encode_and_mask rfl (opOf_cmdWord ..) rfl, encode_and_mask rfl (opOf_cmdWord ..) rfl,
    encode_and_mask hpair (opOf_cmdWord ..) rfl⟩
  case madd | mmul | msqr => push_cast; rfl
  case mred =>
    simp only [gives, exec_mred hpair]
    exact modular_residue (fun _ => by rw [State.readPair]; push_cast; rfl) rd

/-! ### MMUL as MUL and MRED (R183) -/

/-- After a command that succeeds the next one reads the live registers (R52). -/
theorem WritesR.natR_eq {s t : State} {l : List RReg} (h : WritesR s t l) (i : RReg) :
    t.natR i = t.data.r[i].toNat := natR_of_none h.inflight i

/-- A register that the first command does not write holds the next command's operand unchanged. -/
theorem WritesR.natR_kept {s t : State} {l : List RReg} (h : WritesR s t l) (hsrc : s.src = s.data)
    {i : RReg} (hi : i ∉ l) : t.natR i = s.natR i := by
  rw [h.natR_eq, h.r i hi, State.natR, State.readR, hsrc]

/-- Settles O39: MUL leaves the exact product in the pair and the modulus where it was, so both sides are
the residue of the product. -/
theorem mmulIsMulThenMred : Obligations.MmulIsMulThenMred := by
  intro rd rs1 rs2 rs3 k s hsrc hm hpair hlo hhi
  obtain ⟨t₁, hmul, hframe, hprod, -⟩ := productTo_spec hpair (natR_mul_lt s rs1 rs2) s
  have hmod : t₁.natR rs3 = s.natR rs3 := hframe.natR_kept hsrc (by simp [hlo, hhi])
  have hpairValue : t₁.readPair k = s.natR rs1 * s.natR rs2 := by
    rw [State.readPair, hframe.natR_eq, hframe.natR_eq]
    exact hprod
  have hlt (v : Nat) : v % s.natR rs3 < s.natR rs3 := Nat.mod_lt v (Nat.pos_of_ne_zero hm)
  obtain ⟨t, hmmul, -, hr, hz, -⟩ := modular_spec (f := (s.natR rs1 * s.natR rs2 % ·)) (hlt _) rd
  obtain ⟨t₂, hmred, -, hr₂, hz₂, -⟩ :=
    modular_spec (s := t₁) (f := (t₁.readPair k % ·)) (hmod ▸ hlt _) rd
  rw [hpairValue, hmod] at hr₂ hz₂
  exact ⟨t, t₁, t₂, hmmul, hmul, (exec_mred hpair ..).trans hmred,
    BitVec.eq_of_toNat_eq (hr₂.trans hr.symm), hz₂.trans hz.symm⟩

end Sys2Proof.Machine
end

section
/-! SUPPORT. The fast reducer as arithmetic on the value of its words: the table's congruences, what a carry
propagation keeps, and the bounds that leave one subtraction of p (spec R210 to R214). -/

namespace Sys2Proof.Machine

/-! ### Words and rows (R211) -/

@[simp] theorem length_words32 (n v : Nat) : (words32 n v).length = n := by
  induction n generalizing v with
  | zero => rfl
  | succ n ih => rw [words32, List.length_cons, ih]

/-- The n lowest words stand for the value mod 2^(32n) (R211). -/
theorem wordsValue_words32 (n v : Nat) : wordsValue (words32 n v) = (v % 2 ^ (32 * n) : Nat) := by
  induction n generalizing v with
  | zero => simp [words32, wordsValue, Nat.mod_one]
  | succ n ih =>
    rw [words32, wordsValue, ih, Nat.mul_succ, Nat.add_comm, Nat.pow_add, Nat.mod_mul]
    push_cast
    rfl

theorem words32_bounds {n v : Nat} {c : Int} (h : c ∈ words32 n v) : 0 ≤ c ∧ c ≤ 2 ^ 32 - 1 := by
  induction n generalizing v with
  | zero => simp [words32] at h
  | succ n ih =>
    rcases List.mem_cons.1 h with rfl | htail
    · omega
    · exact ih htail

@[simp] theorem length_addRow (sums row : List Int) (c : Int) :
    (addRow sums row c).length = min sums.length row.length := List.length_zipWith

/-- Adding c times a row adds c times the row's value (R212, R213). -/
theorem wordsValue_addRow {sums row : List Int} (h : row.length = sums.length) (c : Int) :
    wordsValue (addRow sums row c) = wordsValue sums + c * wordsValue row := by
  induction sums generalizing row with
  | nil => simp [List.length_eq_zero_iff.1 h, addRow, wordsValue]
  | cons s sums ih =>
    obtain ⟨m, row, rfl⟩ := List.exists_cons_of_length_eq_add_one h
    have htail := ih (Nat.succ.inj h)
    rw [addRow] at htail
    rw [addRow, List.zipWith_cons_cons, wordsValue, htail, wordsValue, wordsValue]
    ring

/-- What rows add to the column sums when each is taken its word's number of times (R212). -/
def rowsValue (rcs : List (List Int × Int)) : Int := (rcs.map fun rc => rc.2 * wordsValue rc.1).sum

@[simp] theorem rowsValue_cons (rc : List Int × Int) (rcs : List (List Int × Int)) :
    rowsValue (rc :: rcs) = rc.2 * wordsValue rc.1 + rowsValue rcs := by simp [rowsValue]

/-- The column sums after every row was added: their value and their number. -/
theorem wordsValue_foldl_addRow {n : Nat} {rcs : List (List Int × Int)} {sums : List Int}
    (hsums : sums.length = n) (h : ∀ rc ∈ rcs, rc.1.length = n) :
    (rcs.foldl (fun sums rc => addRow sums rc.1 rc.2) sums).length = n ∧
    wordsValue (rcs.foldl (fun sums rc => addRow sums rc.1 rc.2) sums) =
      wordsValue sums + rowsValue rcs := by
  induction rcs generalizing sums with
  | nil => simp [hsums, rowsValue]
  | cons rc rcs ih =>
    obtain ⟨hrow, hrows⟩ := List.forall_mem_cons.1 h
    obtain ⟨hlen, hval⟩ := ih (sums := addRow sums rc.1 rc.2) (by simp [hsums, hrow]) hrows
    refine ⟨hlen, hval.trans ?_⟩
    rw [wordsValue_addRow (hrow.trans hsums.symm), rowsValue_cons, add_assoc]

/-! ### The coefficient table (R211) -/

/-- The first row is congruent to m mod p, and each further row to 2^32 times what the row before it is
congruent to (R211). -/
def RowsStandFor : Int → List (List Int) → Prop
  | _, [] => True
  | m, row :: rows => wordsValue row ≡ m [ZMOD Config.SM2_p] ∧ RowsStandFor (2 ^ 32 * m) rows

/-- The congruences that R211 states of the table's rows: row i stands for 2^(32(8+i)). -/
theorem rowsStandFor_reducerTable : RowsStandFor (2 ^ 256) reducerTable := by
  refine ⟨?_, ?_, ?_, ?_, ?_, ?_, ?_, ?_, trivial⟩ <;> decide

theorem length_row_reducerTable : ∀ row ∈ reducerTable, row.length = 8 := by decide

theorem row_nonneg_reducerTable : ∀ row ∈ reducerTable, 0 ≤ wordsValue row := by decide

/-- Rows that stand for m, 2^32·m, … take words to m times the words' value (R211). -/
theorem rowsValue_modEq {m : Int} {rows : List (List Int)} {ws : List Int} (h : RowsStandFor m rows)
    (hlen : ws.length = rows.length) :
    rowsValue (List.zip rows ws) ≡ m * wordsValue ws [ZMOD Config.SM2_p] := by
  induction rows generalizing m ws with
  | nil => simp [List.length_eq_zero_iff.1 hlen, rowsValue, wordsValue]
  | cons row rows ih =>
    obtain ⟨w, ws, rfl⟩ := List.exists_cons_of_length_eq_add_one hlen
    obtain ⟨hrow, hrows⟩ := h
    rw [List.zip_cons_cons, rowsValue_cons, wordsValue]
    calc w * wordsValue row + rowsValue (List.zip rows ws)
        ≡ w * m + 2 ^ 32 * m * wordsValue ws [ZMOD Config.SM2_p] :=
          (hrow.mul_left w).add (ih hrows (Nat.succ.inj hlen))
      _ = m * (w + 2 ^ 32 * wordsValue ws) := by ring

/-- Rows of value at least 0, each taken less than 2^32 times, add a value at least 0 and at most 2^32 − 1
times their sum. -/
theorem rowsValue_bounds {rows : List (List Int)} {ws : List Int}
    (hlen : ws.length = rows.length) (hrows : ∀ row ∈ rows, 0 ≤ wordsValue row)
    (hws : ∀ w ∈ ws, 0 ≤ w ∧ w ≤ 2 ^ 32 - 1) :
    0 ≤ rowsValue (List.zip rows ws) ∧
    rowsValue (List.zip rows ws) ≤ (2 ^ 32 - 1) * (rows.map wordsValue).sum := by
  induction rows generalizing ws with
  | nil => simp [rowsValue]
  | cons row rows ih =>
    obtain ⟨w, ws, rfl⟩ := List.exists_cons_of_length_eq_add_one hlen
    obtain ⟨hrow, hrows⟩ := List.forall_mem_cons.1 hrows
    obtain ⟨⟨hw, hw'⟩, hws⟩ := List.forall_mem_cons.1 hws
    obtain ⟨hge, hle⟩ := ih (Nat.succ.inj hlen) hrows hws
    rw [List.zip_cons_cons, rowsValue_cons, List.map_cons, List.sum_cons, mul_add]
    exact ⟨add_nonneg (mul_nonneg hw hrow) hge, add_le_add (mul_le_mul_of_nonneg_right hw' hrow) hle⟩

/-- The column sums of a 512-bit value: eight of them, congruent to it, from 0 to below 14·2^256 (R212). -/
theorem columnSums_spec {v : Nat} (hv : v < 2 ^ 512) :
    (columnSums v).length = 8 ∧ wordsValue (columnSums v) ≡ v [ZMOD Config.SM2_p] ∧
    0 ≤ wordsValue (columnSums v) ∧ wordsValue (columnSums v) < 14 * 2 ^ 256 := by
  have hhigh : (words32 8 (v / 2 ^ 256)).length = reducerTable.length := length_words32 8 _
  obtain ⟨hlen, hval⟩ := wordsValue_foldl_addRow (length_words32 8 v)
    (rcs := List.zip reducerTable (words32 8 (v / 2 ^ 256)))
    fun rc hrc => length_row_reducerTable rc.1 (List.of_mem_zip hrc).1
  have hmod := rowsValue_modEq rowsStandFor_reducerTable hhigh
  obtain ⟨hge, hle⟩ := rowsValue_bounds hhigh row_nonneg_reducerTable fun _ => words32_bounds
  have htotal : (2 ^ 32 - 1) * (reducerTable.map wordsValue).sum + 2 ^ 256 ≤ 14 * 2 ^ 256 := by decide
  rw [wordsValue_words32] at hval hmod
  rw [columnSums, hval]
  refine ⟨hlen, ?_, by omega, by omega⟩
  calc ((v % 2 ^ (32 * 8) : Nat) : Int) + rowsValue (List.zip reducerTable (words32 8 (v / 2 ^ 256)))
      ≡ (v % 2 ^ (32 * 8) : Nat) + 2 ^ 256 * (v / 2 ^ 256 % 2 ^ (32 * 8) : Nat) [ZMOD Config.SM2_p] :=
        hmod.add_left _
    _ = v := by omega

/-! ### Carry propagation (R212, R213) -/

/-- The value that words and a carry out of the highest word stand for (R212). -/
def accValue (st : List Int × Int) : Int := wordsValue st.1 + 2 ^ 256 * st.2

/-- Eight words that stand for a value of 256 bits. -/
structure IsWords256 (ws : List Int) : Prop where
  length : ws.length = 8
  nonneg : 0 ≤ wordsValue ws
  lt : wordsValue ws < 2 ^ 256

@[simp] theorem length_propagate (ss : List Int) (c : Int) : (propagate ss c).1.length = ss.length := by
  induction ss generalizing c with
  | nil => rfl
  | cons s ss ih => rw [propagate, List.length_cons, ih, List.length_cons]

/-- A propagation keeps the value, the carry counting above the words (R212). -/
theorem wordsValue_propagate (ss : List Int) (c : Int) :
    wordsValue (propagate ss c).1 + 2 ^ (32 * ss.length) * (propagate ss c).2 = wordsValue ss + c := by
  induction ss generalizing c with
  | nil => simp [propagate, wordsValue]
  | cons s ss ih =>
    have hdiv := Int.emod_add_mul_ediv (s + c) (2 ^ 32)
    have htail := ih ((s + c) / 2 ^ 32)
    rw [propagate, wordsValue, wordsValue, List.length_cons, Nat.mul_succ, pow_add]
    linear_combination hdiv + 2 ^ 32 * htail

/-- The words of a propagation are 32-bit words (R212). -/
theorem propagate_bounds (ss : List Int) (c : Int) :
    0 ≤ wordsValue (propagate ss c).1 ∧ wordsValue (propagate ss c).1 < 2 ^ (32 * ss.length) := by
  induction ss generalizing c with
  | nil => simp [propagate, wordsValue]
  | cons s ss ih =>
    obtain ⟨hge, hlt⟩ := ih ((s + c) / 2 ^ 32)
    rw [propagate, wordsValue, List.length_cons, Nat.mul_succ, pow_add]
    omega

/-- A propagation over eight columns leaves words of 256 bits and keeps the value. -/
theorem propagate_eight {ss : List Int} (h : ss.length = 8) :
    IsWords256 (propagate ss 0).1 ∧ accValue (propagate ss 0) = wordsValue ss := by
  have hval := wordsValue_propagate ss 0
  obtain ⟨hge, hlt⟩ := propagate_bounds ss 0
  rw [h] at hval hlt
  exact ⟨⟨(length_propagate ss 0).trans h, hge, hlt⟩, hval.trans (add_zero _)⟩

/-- One overflow round (R213). -/
def overflowRound (st : List Int × Int) : List Int × Int := propagate (addRow st.1 reducerRow8 st.2) 0

theorem foldOverflow_succ (n : Nat) (st : List Int × Int) :
    foldOverflow (n + 1) st = if st.2 = 0 then st else foldOverflow n (overflowRound st) := rfl

/-- The identity of R210: row c8 is 2^256 − p. -/
theorem wordsValue_reducerRow8 : wordsValue reducerRow8 = 2 ^ 256 - Config.SM2_p := by decide

/-- An overflow round takes p off the value once per carry (R213). -/
theorem overflowRound_spec {st : List Int × Int} (h : IsWords256 st.1) :
    IsWords256 (overflowRound st).1 ∧
    accValue (overflowRound st) = accValue st - st.2 * Config.SM2_p := by
  obtain ⟨hwords, hval⟩ := propagate_eight (ss := addRow st.1 reducerRow8 st.2)
    (by rw [length_addRow, h.length]; rfl)
  refine ⟨hwords, hval.trans ?_⟩
  rw [wordsValue_addRow (Eq.symm h.length), wordsValue_reducerRow8, accValue]
  ring

/-- Overflow folding keeps words of 256 bits and the value mod p (R213). -/
theorem foldOverflow_spec (n : Nat) {st : List Int × Int} (h : IsWords256 st.1) :
    IsWords256 (foldOverflow n st).1 ∧ accValue (foldOverflow n st) ≡ accValue st [ZMOD Config.SM2_p] := by
  induction n generalizing st with
  | zero => exact ⟨h, .rfl⟩
  | succ n ih =>
    rw [foldOverflow_succ]
    split
    · exact ⟨h, .rfl⟩
    · obtain ⟨hwords, hval⟩ := overflowRound_spec h
      obtain ⟨hwords', hval'⟩ := ih hwords
      refine ⟨hwords', hval'.trans ?_⟩
      rw [hval]
      exact Int.modEq_iff_dvd.2 ⟨st.2, by ring⟩

/-- Two overflow rounds leave no carry: after the first the carry is at most 1, and the words are small
when it is 1 (R213). -/
theorem foldOverflow_two_carry {st : List Int × Int} (h : IsWords256 st.1) (hge : 0 ≤ st.2)
    (hle : st.2 ≤ 13) : (foldOverflow 2 st).2 = 0 := by
  obtain ⟨hwords₁, hval₁⟩ := overflowRound_spec h
  obtain ⟨hwords₂, hval₂⟩ := overflowRound_spec hwords₁
  have hsecond : (overflowRound (overflowRound st)).2 = 0 := by
    obtain ⟨-, hge₀, hlt₀⟩ := h
    obtain ⟨-, hge₁, hlt₁⟩ := hwords₁
    obtain ⟨-, hge₂, hlt₂⟩ := hwords₂
    simp only [accValue, Config.SM2_p] at hval₁ hval₂
    omega
  rw [foldOverflow_succ, foldOverflow_succ, foldOverflow]
  split
  · assumption
  · split
    · assumption
    · exact hsecond

/-! ### The result (R201, R214) -/

/-- 2^256 is below 2p, so one subtraction of p gives the residue of a 256-bit value (R214). -/
theorem sub_p_eq_mod {r : Nat} (h : r < 2 ^ 256) :
    (if Config.SM2_p ≤ r then r - Config.SM2_p else r) = r % Config.SM2_p := by
  have htwice : 2 ^ 256 < 2 * Config.SM2_p := by decide
  split
  next hle => rw [Nat.mod_eq_sub_mod hle, Nat.mod_eq_of_lt (by omega)]
  next hlt => rw [Nat.mod_eq_of_lt (by omega)]

/-- Settles O43: every stage keeps the value mod p, and the bounds on the column sums bound the carries. -/
theorem fastReducerGivesResidue : Obligations.FastReducerGivesResidue := by
  intro v hv
  obtain ⟨hlen, hmod, hge, hlt⟩ := columnSums_spec hv
  obtain ⟨hwords, hval⟩ := propagate_eight hlen
  obtain ⟨hwords', hmod'⟩ := foldOverflow_spec 2 hwords
  have hnonneg := hwords.nonneg
  have hlt256 := hwords.lt
  have hcarry : 0 ≤ (propagate (columnSums v) 0).2 ∧ (propagate (columnSums v) 0).2 ≤ 13 := by
    rw [accValue] at hval
    omega
  have hnone := foldOverflow_two_carry hwords hcarry.1 hcarry.2
  refine ⟨?_, hcarry.1, hcarry.2, hnone⟩
  rw [hval, accValue, hnone, mul_zero, add_zero, ← Int.toNat_of_nonneg hwords'.nonneg] at hmod'
  rw [fastReduce, sub_p_eq_mod ((Int.toNat_lt hwords'.nonneg).2 hwords'.lt)]
  exact Int.natCast_modEq_iff.1 (hmod'.trans hmod)

end Sys2Proof.Machine
end

section
/-! SUPPORT. The commands mod the SM2 prime p: how a field command ends, FINV's power, and the modular
commands with p in the modulus register (spec R200 to R208). -/

namespace Sys2Proof.Machine

/-- A field command that computes the residue of the integer `v` writes it and Z of it, and keeps C and T
(R200). -/
theorem writeResidue_residue {r : Nat} {v : Int} (hres : (r : Int) = v % Config.SM2_p) (rd : RReg)
    (s : State) :
    ∃ t, s.writeResidue rd r = .next t ∧ WritesR s t [rd] ∧
      (t.data.r[rd].toNat : Int) = v % Config.SM2_p ∧ t.data.z = decide (v % Config.SM2_p = 0) ∧
      t.data.c = s.data.c ∧ t.data.t = s.data.t := by
  have hlt : r < Config.SM2_p := by
    have := Int.emod_lt_of_pos v (Int.natCast_pos.2 p_pos)
    omega
  obtain ⟨t, hexec, hframe, hr, hz, hc, ht⟩ := writeResidue_spec s rd (hlt.trans p_lt)
  refine ⟨t, hexec, hframe, hr ▸ hres, hz.trans (decide_eq_decide.2 ?_), hc, ht⟩
  rw [← hres, Int.natCast_eq_zero]

/-- Settles O40: each command's value is the residue of the exact integer. -/
theorem fieldCommandsGiveResidues : Obligations.FieldCommandsGiveResidues := by
  intro rd rs1 rs2 rs1p s hpair p a b gives
  have hfp (v : Nat) : (fp v : Int) = v % Config.SM2_p := Int.natCast_mod ..
  have hsub (x y : Nat) : (fSub x y : Int) = ((x : Int) - y) % Config.SM2_p := subMod_int x y p_pos.ne'
  refine ⟨?fred, writeResidue_residue (hfp _) rd s, writeResidue_residue (hsub a b) rd s,
    writeResidue_residue (hfp _) rd s, writeResidue_residue (hfp _) rd s,
    writeResidue_residue (hsub 0 a) rd s, writeResidue_residue (hfp a) rd s,
    encode_and_mask hpair (opOf_cmdWord ..) rfl, encode_and_mask rfl (opOf_cmdWord ..) rfl,
    encode_and_mask rfl (opOf_cmdWord ..) rfl, encode_and_mask rfl (opOf_cmdWord ..) rfl,
    encode_and_mask rfl (opOf_cmdWord ..) rfl, encode_and_mask rfl (opOf_cmdWord ..) rfl,
    encode_and_mask rfl (opOf_cmdWord ..) rfl⟩
  case fred =>
    have hexec : exec (.fred rd rs1p) s = s.writeResidue rd (fp (s.readPair rs1p)) :=
      withPair_even hpair s _
    simp only [gives, hexec]
    exact writeResidue_residue (hfp _) rd s

/-! ### FINV (R207) -/

/-- The exponent p − 2 is below p, so the core ignores none of its bits (R186, R207). -/
theorem fInv_eq (a : Nat) : fInv a = a ^ (Config.SM2_p - 2) % Config.SM2_p :=
  mpowCore_of_lt a (Nat.sub_lt p_pos two_pos)

/-- FINV's power depends on the operand's residue only (R200). -/
theorem fInv_fp (a : Nat) : fInv (fp a) = fInv a := by
  rw [fInv_eq, fInv_eq, fp, ← Nat.pow_mod]

theorem fInv_lt (a : Nat) : fInv a < Config.SM2_p := mpowCore_lt _ _ p_pos.ne'

/-- A positive power of a multiple of m. The exponent is a variable here, so that no check evaluates the
power. -/
theorem pow_mod_eq_zero {a k m : Nat} (hk : k ≠ 0) (h : a % m = 0) : a ^ k % m = 0 :=
  Nat.mod_eq_zero_of_dvd (dvd_pow (Nat.dvd_of_mod_eq_zero h) hk)

theorem fInv_of_fp_zero {a : Nat} (h : fp a = 0) : fInv a = 0 :=
  (fInv_eq a).trans (pow_mod_eq_zero (by decide) h)

theorem execFinv_nonzero {rs1 : RReg} {s : State} (h : fp (s.natR rs1) ≠ 0) (rd : RReg) :
    execFinv rd rs1 s =
      succeed ((s.writeR rd (BitVec.ofNat 256 (fInv (fp (s.natR rs1))))).setZ false) := if_neg h

/-- Settles O41: FINV's two ends, the second with the closed form of the core. -/
theorem finvGivesFermatPower : Obligations.FinvGivesFermatPower := by
  intro rd rs1 s
  refine ⟨encode_and_mask rfl (opOf_cmdWord ..) rfl, fun ha => ?zero, fun ha => ?nonzero⟩
  case zero => exact ⟨_, if_pos ha, fails_raised .invZero s⟩
  case nonzero =>
    refine ⟨_, execFinv_nonzero ha rd, writesR_one s rd _ s.data.c false s.data.t, ?_, rfl, rfl, rfl⟩
    rw [finish_data, setZ_data_r, writeR_data_r, vset_same, toNat_ofNat_of_lt (fInv_lt _), fInv_eq]
    rfl

/-! ### The modular commands with modulus p (R188, R201, R207) -/

/-- With p in the modulus register a modular command ends by writing the residue mod p. -/
theorem modular_p {rs3 : RReg} {s : State} (h : s.natR rs3 = Config.SM2_p) (rd : RReg)
    (f : Nat → Nat) : modular rd rs3 f s = s.writeResidue rd (f Config.SM2_p) := by
  rw [modular_nonzero (h ▸ p_pos.ne'), h]

/-- FINV is MINV by p where the power that both write is not 0, since FINV writes Z = 0 (R207). -/
theorem execFinv_eq_execMinv {rs1 rs3 : RReg} {s : State} (h : s.natR rs3 = Config.SM2_p)
    (hpow : fInv (s.natR rs1) ≠ 0) (rd : RReg) : execFinv rd rs1 s = execMinv rd rs1 rs3 s := by
  have ha : fp (s.natR rs1) ≠ 0 := hpow ∘ fInv_of_fp_zero
  have hz : natZero (fInv (s.natR rs1)) = false := beq_false_of_ne hpow
  rw [execFinv_nonzero ha, fInv_fp, execMinv_eq_modular (.inr (h ▸ ha)), modular_p h, ← fInv,
    State.writeResidue, hz]

/-- Settles O42: with p in the modulus register both families write the same residue. -/
theorem fieldCommandsAreModularByP : Obligations.FieldCommandsAreModularByP := by
  intro rd rs1 rs2 rs3 rs1p s h
  exact ⟨(modular_p h rd _).symm, (modular_p h rd _).symm, (modular_p h rd _).symm,
    (modular_p h rd _).symm, congrArg (withPair rs1p s) (modular_p h rd _).symm,
    fun hpow => execFinv_eq_execMinv h (fInv_eq _ ▸ hpow) rd⟩

end Sys2Proof.Machine
end

section
/-! SUPPORT. The cores of the point arithmetic, one equation per case: what they are in the field, and that
their coordinates are residues (spec R230 to R234). -/

namespace Sys2Proof.Machine

/-! ### Reduced coordinates (R36, R38) -/

/-- A Jacobian triple of residues (R38). -/
structure Jac.Reduced (j : Jac) : Prop where
  X : j.X < Config.SM2_p
  Y : j.Y < Config.SM2_p
  Z : j.Z < Config.SM2_p

/-- A point whose coordinates are residues (R36). -/
def Point.Reduced : Point → Prop
  | .infinity => True
  | .affine x y => x < Config.SM2_p ∧ y < Config.SM2_p

theorem one_lt_p : 1 < Config.SM2_p := by decide

theorem reduced_infinity : Jac.infinity.Reduced := ⟨p_pos, p_pos, p_pos⟩

theorem reduced_jac (r : JacReg) : r.jac.Reduced :=
  let ⟨hX, hY, hZ⟩ := jac_lt r
  ⟨hX, hY, hZ⟩

theorem point_of_inf {r : AffReg} (h : r.inf = true) : r.point = .infinity := if_pos h

theorem point_of_finite {r : AffReg} (h : r.inf = false) :
    r.point = .affine (fp r.x.toNat) (fp r.y.toNat) := if_neg (by simp [h])

theorem readA_of_inf {s : State} {i : PReg} (h : s.src.pa[i].inf = true) : s.readA i = .infinity :=
  point_of_inf h

theorem readA_of_finite {s : State} {i : PReg} (h : s.src.pa[i].inf = false) :
    s.readA i = .affine (fp s.src.pa[i].x.toNat) (fp s.src.pa[i].y.toNat) := point_of_finite h

theorem reduced_point (r : AffReg) : r.point.Reduced := by
  cases h : r.inf with
  | true => exact point_of_inf h ▸ trivial
  | false => exact point_of_finite h ▸ ⟨fp_lt _, fp_lt _⟩

theorem reduced_readA (s : State) (i : PReg) : (s.readA i).Reduced := reduced_point _

theorem reduced_readJ (s : State) (i : JReg) : (s.readJ i).Reduced := reduced_jac _

theorem Point.Reduced.jfromCore {q : Point} (h : q.Reduced) : (jfromCore q).Reduced := by
  cases q with
  | infinity => exact reduced_infinity
  | affine x y => exact ⟨h.1, h.2, one_lt_p⟩

/-- A reduced triple has Z = 0 exactly when Z is 0 in the field. -/
theorem Jac.Reduced.Z_eq_zero_iff {j : Jac} (h : j.Reduced) :
    (j.Z : ZMod Config.SM2_p) = 0 ↔ j.Z = 0 := cast_eq_zero_of_lt h.Z

/-! ### The doubler (R232) -/

/-- The triple `j` has the coordinates X, Y, Z in the field. -/
structure Jac.Is (j : Jac) (X Y Z : ZMod Config.SM2_p) : Prop where
  X : (j.X : ZMod Config.SM2_p) = X
  Y : (j.Y : ZMod Config.SM2_p) = Y
  Z : (j.Z : ZMod Config.SM2_p) = Z

theorem Jac.Reduced.Z_eq_zero_iff_of_is {j : Jac} (h : j.Reduced) {X Y Z : ZMod Config.SM2_p}
    (his : j.Is X Y Z) : j.Z = 0 ↔ Z = 0 := by
  rw [← his.Z, h.Z_eq_zero_iff]

theorem is_infinity : Jac.infinity.Is 0 0 0 := ⟨Nat.cast_zero, Nat.cast_zero, Nat.cast_zero⟩

/-- A Jacobian register is read with the coordinates it stores (R231). -/
theorem jac_is (r : JacReg) : r.jac.Is r.X.toNat r.Y.toNat r.Z.toNat := ⟨fp_cast _, fp_cast _, fp_cast _⟩

theorem jdblCore_zero {j : Jac} (h : j.Z = 0) : jdblCore j = Jac.infinity := if_pos h

theorem reduced_jdblCore (j : Jac) : (jdblCore j).Reduced := by
  unfold jdblCore
  split
  · exact reduced_infinity
  · exact ⟨fSub_lt _ _, fSub_lt _ _, fMul_lt _ _⟩

section doubling
variable {X Y Z M S X3 : ZMod Config.SM2_p} (hM : M = 3 * (X - Z ^ 2) * (X + Z ^ 2))
  (hS : S = 4 * X * Y ^ 2) (hX3 : X3 = M ^ 2 - 2 * S)
include hM hS hX3

/-- The a = −3 doubling formula in the field (R232). -/
theorem jdblCore_is {j : Jac} (h : j.Z ≠ 0) (hj : j.Is X Y Z) :
    (jdblCore j).Is X3 (M * (S - X3) - 8 * Y ^ 4) (2 * Y * Z) := by
  obtain ⟨rfl, rfl, rfl⟩ := hj
  subst hX3 hM hS
  rw [jdblCore, if_neg h]
  constructor <;> simp only [fSub_cast, fAdd_cast, fMul_cast] <;> push_cast <;> ring

end doubling

/-! ### The mixed adder (R233) -/

/-- The difference of the x coordinates on the common denominator Z1² (R233). -/
def addmH (j : Jac) (x : Nat) : Nat := fSub (fMul x (fMul j.Z j.Z)) j.X

/-- The difference of the y coordinates on the common denominator Z1³ (R233). -/
def addmR (j : Jac) (y : Nat) : Nat := fSub (fMul (fMul y (fMul j.Z j.Z)) j.Z) j.Y

theorem jaddmCore_zero {j : Jac} (hZ : j.Z = 0) (x y : Nat) :
    jaddmCore j (.affine x y) = ⟨x, y, 1⟩ := if_pos hZ

theorem reduced_jaddmCore {j : Jac} {q : Point} (hj : j.Reduced) (hq : q.Reduced) :
    (jaddmCore j q).Reduced := by
  cases q with
  | infinity => exact hj
  | affine x y =>
    unfold jaddmCore
    dsimp only
    split_ifs
    · exact ⟨hq.1, hq.2, one_lt_p⟩
    · exact reduced_jdblCore j
    · exact reduced_infinity
    · exact ⟨fSub_lt _ _, fSub_lt _ _, fMul_lt _ _⟩

section addition
variable {j : Jac} {x y : Nat} {X Y Z x2 y2 H r : ZMod Config.SM2_p} (hZ : j.Z ≠ 0) (hj : j.Is X Y Z)
  (hx : (x : ZMod Config.SM2_p) = x2) (hy : (y : ZMod Config.SM2_p) = y2)
  (hH : H = x2 * Z ^ 2 - X) (hr : r = y2 * Z ^ 3 - Y)

include hj hx hH in
theorem addmH_cast : (addmH j x : ZMod Config.SM2_p) = H := by
  obtain ⟨rfl, rfl, rfl⟩ := hj
  subst hx hH
  simp only [addmH, fSub_cast, fMul_cast]
  ring

include hj hy hr in
theorem addmR_cast : (addmR j y : ZMod Config.SM2_p) = r := by
  obtain ⟨rfl, rfl, rfl⟩ := hj
  subst hy hr
  simp only [addmR, fSub_cast, fMul_cast]
  ring

include hj hx hH in
theorem addmH_eq_zero_iff : addmH j x = 0 ↔ H = 0 := by
  rw [← addmH_cast hj hx hH, addmH, cast_eq_zero_of_lt (fSub_lt _ _)]

include hj hy hr in
theorem addmR_eq_zero_iff : addmR j y = 0 ↔ r = 0 := by
  rw [← addmR_cast hj hy hr, addmR, cast_eq_zero_of_lt (fSub_lt _ _)]

include hZ hj hx hy hH hr

/-- Equal points are doubled (R233). -/
theorem jaddmCore_equal (hH0 : H = 0) (hr0 : r = 0) : jaddmCore j (.affine x y) = jdblCore j :=
  (if_neg hZ).trans ((if_pos ((addmH_eq_zero_iff hj hx hH).2 hH0)).trans
    (if_pos ((addmR_eq_zero_iff hj hy hr).2 hr0)))

/-- Opposite points give infinity (R233). -/
theorem jaddmCore_opposite (hH0 : H = 0) (hr0 : r ≠ 0) : jaddmCore j (.affine x y) = Jac.infinity :=
  (if_neg hZ).trans ((if_pos ((addmH_eq_zero_iff hj hx hH).2 hH0)).trans
    (if_neg ((addmR_eq_zero_iff hj hy hr).not.2 hr0)))

/-- The mixed addition formula in the field (R233). -/
theorem jaddmCore_is {V X3 : ZMod Config.SM2_p} (hH0 : H ≠ 0) (hV : V = X * H ^ 2)
    (hX3 : X3 = r ^ 2 - H ^ 3 - 2 * V) :
    (jaddmCore j (.affine x y)).Is X3 (r * (V - X3) - Y * H ^ 3) (Z * H) := by
  have hHne : fSub (fMul x (fMul j.Z j.Z)) j.X ≠ 0 := (addmH_eq_zero_iff hj hx hH).not.2 hH0
  obtain ⟨rfl, rfl, rfl⟩ := hj
  subst hX3 hV hr hH hx hy
  rw [jaddmCore, if_neg hZ, if_neg hHne]
  constructor <;> simp only [fSub_cast, fMul_cast] <;> push_cast <;> ring

end addition

end Sys2Proof.Machine
end

section
/-! SUPPORT. What a written point register holds, and how the point commands end (spec R231, R236 to R249). -/

namespace Sys2Proof.Machine

/-! ### Stored points -/

theorem toReg_affine_toNat {x y : Nat} (hx : x < Config.SM2_p) (hy : y < Config.SM2_p) :
    (Point.toReg (.affine x y)).x.toNat = x ∧ (Point.toReg (.affine x y)).y.toNat = y :=
  ⟨toNat_ofNat_of_lt hx, toNat_ofNat_of_lt hy⟩

@[simp] theorem toReg_inf (p : Point) : p.toReg.inf = p.isInfinity := by cases p <;> rfl

@[simp] theorem point_isInfinity (r : AffReg) : r.point.isInfinity = r.inf := by
  cases h : r.inf with
  | true => rw [point_of_inf h]; rfl
  | false => rw [point_of_finite h]; rfl

/-- A stored point reads back (R231). -/
theorem Point.Reduced.point_toReg {p : Point} (h : p.Reduced) : p.toReg.point = p := by
  cases p with
  | infinity => rfl
  | affine x y => exact toReg_point_affine h.1 h.2

theorem toReg_of_Z_zero {j : Jac} (h : j.Z = 0) : j.toReg = ⟨0, 0, 0⟩ := if_pos h

/-- A stored reduced triple with Z ≠ 0 keeps its coordinates (R231). -/
theorem Jac.Reduced.toReg_toNat {j : Jac} (h : j.Reduced) (hZ : j.Z ≠ 0) :
    j.toReg.X.toNat = j.X ∧ j.toReg.Y.toNat = j.Y ∧ j.toReg.Z.toNat = j.Z := by
  rw [Jac.toReg, if_neg hZ]
  exact ⟨toNat_ofNat_of_lt h.X, toNat_ofNat_of_lt h.Y, toNat_ofNat_of_lt h.Z⟩

/-! ### How the commands end -/

/-- A command that writes one affine register and no flag. -/
theorem succeed_writeA_spec (s : State) (pd : PReg) (p : Point) :
    ∃ t, succeed (s.writeA pd p) = .next t ∧ WritesPA s t pd ∧ KeepsFlags s t ∧
      t.data.pa[pd] = p.toReg :=
  ⟨_, rfl, writesPA_one s pd p.toReg s.data.c s.data.z s.data.t, ⟨rfl, rfl, rfl⟩, vset_same _ _ _⟩

/-- A command that writes an affine result and T of it. -/
theorem pointResult_spec (s : State) (pd : PReg) (p : Point) :
    ∃ t, s.pointResult pd p = .next t ∧ WritesPA s t pd ∧ t.data.pa[pd] = p.toReg ∧
      t.data.t = p.isInfinity ∧ t.data.c = s.data.c ∧ t.data.z = s.data.z :=
  ⟨_, rfl, writesPA_one s pd p.toReg s.data.c s.data.z p.isInfinity, vset_same _ _ _, rfl, rfl, rfl⟩

/-- A command that writes a Jacobian register and T. -/
theorem succeed_writeJ_spec (s : State) (jd : JReg) (j : Jac) (b : Bool) :
    ∃ t, succeed ((s.writeJ jd j).setT b) = .next t ∧ WritesPJ s t jd ∧ t.data.pj[jd] = j.toReg ∧
      t.data.t = b ∧ t.data.c = s.data.c ∧ t.data.z = s.data.z :=
  ⟨_, rfl, writesPJ_one s jd j.toReg s.data.c s.data.z b, vset_same _ _ _, rfl, rfl, rfl⟩

/-- A command that writes a Jacobian result and T of it. -/
theorem jacResult_spec (s : State) (jd : JReg) (j : Jac) :
    ∃ t, s.jacResult jd j = .next t ∧ WritesPJ s t jd ∧ t.data.pj[jd] = j.toReg ∧
      t.data.t = natZero j.Z ∧ t.data.c = s.data.c ∧ t.data.z = s.data.z :=
  succeed_writeJ_spec s jd j (natZero j.Z)

/-- A command that writes a register pair and T. -/
theorem succeed_writePair_spec (s : State) (k : RPair) (lo hi : W256) (b : Bool) :
    ∃ t, succeed ((s.writePair k lo hi).setT b) = .next t ∧ WritesR s t [k, k + 1] ∧
      t.data.r[k] = lo ∧ t.data.r[k + 1] = hi ∧ t.data.t = b ∧ t.data.c = s.data.c ∧
      t.data.z = s.data.z :=
  ⟨_, rfl, writesR_pair s k lo hi s.data.c s.data.z b,
    (vset_other _ _ (pairHigh_ne k).symm).trans (vset_same _ _ _), vset_same _ _ _, rfl, rfl, rfl⟩

/-! ### Jacobian results in the field (R38, R231) -/

/-- After the command that answered `t`, register `jd` and T hold the triple (X, Y, Z): the canonical
infinity with T = 1 when Z = 0, reduced coordinates with T = 0 otherwise. -/
def StoresJac (t : State) (jd : JReg) (X Y Z : ZMod Config.SM2_p) : Prop :=
  if Z = 0 then t.data.pj[jd] = ⟨0, 0, 0⟩ ∧ t.data.t = true
  else t.data.t = false ∧ (t.data.pj[jd].X.toNat : ZMod Config.SM2_p) = X ∧
    (t.data.pj[jd].Y.toNat : ZMod Config.SM2_p) = Y ∧
    (t.data.pj[jd].Z.toNat : ZMod Config.SM2_p) = Z ∧
    t.data.pj[jd].X.toNat < Config.SM2_p ∧ t.data.pj[jd].Y.toNat < Config.SM2_p ∧
    t.data.pj[jd].Z.toNat < Config.SM2_p

theorem StoresJac.of_zero {t : State} {jd : JReg} {X Y Z : ZMod Config.SM2_p} (h : StoresJac t jd X Y Z)
    (hZ : Z = 0) : t.data.pj[jd] = ⟨0, 0, 0⟩ ∧ t.data.t = true := by
  rwa [StoresJac, if_pos hZ] at h

theorem StoresJac.of_nonzero {t : State} {jd : JReg} {X Y Z : ZMod Config.SM2_p}
    (h : StoresJac t jd X Y Z) (hZ : Z ≠ 0) :
    t.data.t = false ∧ (t.data.pj[jd].X.toNat : ZMod Config.SM2_p) = X ∧
      (t.data.pj[jd].Y.toNat : ZMod Config.SM2_p) = Y ∧
      (t.data.pj[jd].Z.toNat : ZMod Config.SM2_p) = Z ∧
      t.data.pj[jd].X.toNat < Config.SM2_p ∧ t.data.pj[jd].Y.toNat < Config.SM2_p ∧
      t.data.pj[jd].Z.toNat < Config.SM2_p := by
  rwa [StoresJac, if_neg hZ] at h

/-- What a Jacobian result stores, read in the field. -/
theorem storesJac_of_is {t : State} {jd : JReg} {j : Jac} {X Y Z : ZMod Config.SM2_p} (hj : j.Reduced)
    (his : j.Is X Y Z) (hreg : t.data.pj[jd] = j.toReg) (ht : t.data.t = natZero j.Z) :
    StoresJac t jd X Y Z := by
  obtain ⟨rfl, rfl, rfl⟩ := his
  rw [StoresJac, hreg, ht]
  split
  next hZ =>
    rw [hj.Z_eq_zero_iff] at hZ
    exact ⟨toReg_of_Z_zero hZ, beq_iff_eq.2 hZ⟩
  next hZ =>
    rw [hj.Z_eq_zero_iff] at hZ
    obtain ⟨hX', hY', hZ'⟩ := hj.toReg_toNat hZ
    rw [hX', hY', hZ']
    exact ⟨beq_false_of_ne hZ, rfl, rfl, rfl, hj.X, hj.Y, hj.Z⟩

end Sys2Proof.Machine
end

section
/-! SUPPORT. The curve equation on Jacobian triples in the field: the doubler, the mixed adder and the
double-and-add loop keep it (spec R230 to R235, R250). -/

namespace Sys2Proof.Machine

/-- The curve equation on a Jacobian triple in the field, infinity being on the curve (R230, R250). -/
def JacEquation (X Y Z : ZMod Config.SM2_p) : Prop :=
  Z = 0 ∨ Y ^ 2 = X ^ 3 + (Config.SM2_a : ZMod Config.SM2_p) * X * Z ^ 4 +
    (Config.SM2_b : ZMod Config.SM2_p) * Z ^ 6

/-- A Jacobian triple is on the curve. -/
def Jac.OnCurve (j : Jac) : Prop := JacEquation j.X j.Y j.Z

theorem onCurve_infinity : Jac.infinity.OnCurve := .inl Nat.cast_zero

theorem Jac.Is.onCurve_iff {j : Jac} {X Y Z : ZMod Config.SM2_p} (h : j.Is X Y Z) :
    j.OnCurve ↔ JacEquation X Y Z := by
  rw [Jac.OnCurve, h.X, h.Y, h.Z]

/-- A finite point is on the curve exactly when its coordinates meet the equation in the field (R230). -/
theorem onCurve_affine_iff (x y : Nat) : (Point.affine x y).onCurve = true ↔
    (y : ZMod Config.SM2_p) ^ 2 =
      (x : ZMod Config.SM2_p) ^ 3 + Config.SM2_a * x + (Config.SM2_b : ZMod Config.SM2_p) := by
  rw [Point.onCurve, beq_iff_eq, ← cast_inj_of_lt (fMul_lt _ _) (fAdd_lt _ _)]
  simp only [fMul_cast, fAdd_cast]
  constructor <;> intro h <;> linear_combination h

/-- Doubling in the field keeps the equation: the defect of the result is 64·Y⁶ times the defect of the
operand (R232). -/
theorem jacEquation_double {X Y Z M S X3 : ZMod Config.SM2_p} (h : JacEquation X Y Z)
    (hM : M = 3 * (X - Z ^ 2) * (X + Z ^ 2)) (hS : S = 4 * X * Y ^ 2) (hX3 : X3 = M ^ 2 - 2 * S) :
    JacEquation X3 (M * (S - X3) - 8 * Y ^ 4) (2 * Y * Z) := by
  subst hX3 hM hS
  rw [JacEquation, a_cast] at h ⊢
  rcases h with hZ | h
  · left
    rw [hZ, mul_zero]
  · right
    linear_combination 64 * Y ^ 6 * h

/-- Mixed addition in the field keeps the equation: the defect of the result is a combination of the
operands' defects (R233). -/
theorem jacEquation_add {X Y Z x2 y2 H r V X3 : ZMod Config.SM2_p} (h : JacEquation X Y Z)
    (h2 : y2 ^ 2 = x2 ^ 3 + Config.SM2_a * x2 + Config.SM2_b) (hH : H = x2 * Z ^ 2 - X)
    (hr : r = y2 * Z ^ 3 - Y) (hV : V = X * H ^ 2) (hX3 : X3 = r ^ 2 - H ^ 3 - 2 * V) :
    JacEquation X3 (r * (V - X3) - Y * H ^ 3) (Z * H) := by
  rcases h with hZ | h
  · left
    rw [hZ, zero_mul]
  · right
    linear_combination (norm := (subst hX3 hV hr hH; ring))
      (H ^ 6 + H ^ 3 * (V - X3)) * h - H ^ 3 * (V - X3) * Z ^ 6 * h2

/-! ### The cores (R232, R233, R235) -/

theorem onCurve_jdblCore {j : Jac} (h : j.OnCurve) : (jdblCore j).OnCurve := by
  by_cases hZ : j.Z = 0
  · exact jdblCore_zero hZ ▸ onCurve_infinity
  · exact (jdblCore_is rfl rfl rfl hZ ⟨rfl, rfl, rfl⟩).onCurve_iff.2 (jacEquation_double h rfl rfl rfl)

theorem onCurve_jaddmCore {j : Jac} {q : Point} (hj : j.OnCurve) (hq : q.onCurve = true) :
    (jaddmCore j q).OnCurve := by
  cases q with
  | infinity => exact hj
  | affine x y =>
    rw [onCurve_affine_iff] at hq
    by_cases hZ : j.Z = 0
    · rw [jaddmCore_zero hZ, Jac.OnCurve, JacEquation]
      right
      simpa using hq
    by_cases hH : (x : ZMod Config.SM2_p) * j.Z ^ 2 - j.X = 0
    · by_cases hr : (y : ZMod Config.SM2_p) * j.Z ^ 3 - j.Y = 0
      · rw [jaddmCore_equal hZ ⟨rfl, rfl, rfl⟩ rfl rfl rfl rfl hH hr]
        exact onCurve_jdblCore hj
      · rw [jaddmCore_opposite hZ ⟨rfl, rfl, rfl⟩ rfl rfl rfl rfl hH hr]
        exact onCurve_infinity
    · exact (jaddmCore_is hZ ⟨rfl, rfl, rfl⟩ rfl rfl rfl rfl hH rfl rfl).onCurve_iff.2
        (jacEquation_add hj hq rfl rfl rfl rfl)

/-- Every accumulator of the double-and-add loop is on the curve (R235). -/
theorem onCurve_pmulLoop {p : Point} (hp : p.onCurve = true) (k n : Nat) {acc : Jac} (h : acc.OnCurve) :
    (pmulLoop p k n acc).OnCurve := by
  induction n generalizing acc with
  | zero => exact h
  | succ n ih =>
    have hdbl := onCurve_jdblCore h
    unfold pmulLoop
    cases k.testBit n with
    | true => exact ih (onCurve_jaddmCore hdbl hp)
    | false => exact ih hdbl

/-! ### Registers -/

theorem onCurve_jac_iff (r : JacReg) : r.jac.OnCurve ↔ JacEquation r.X.toNat r.Y.toNat r.Z.toNat :=
  (jac_is r).onCurve_iff

/-- A stored triple is on the curve when the triple is (R231). -/
theorem onCurve_toReg {j : Jac} (h : j.OnCurve) (hj : j.Reduced) :
    JacEquation j.toReg.X.toNat j.toReg.Y.toNat j.toReg.Z.toNat := by
  rw [← onCurve_jac_iff, toReg_jac hj.X hj.Y hj.Z]
  split
  · exact onCurve_infinity
  · exact h

/-- A Jacobian result on the curve is stored on the curve. -/
theorem jacResult_onCurve {j : Jac} (h : j.OnCurve) (hj : j.Reduced) (s : State) (jd : JReg) :
    ∃ t, s.jacResult jd j = .next t ∧
      JacEquation t.data.pj[jd].X.toNat t.data.pj[jd].Y.toNat t.data.pj[jd].Z.toNat := by
  obtain ⟨t, hexec, -, hreg, -⟩ := jacResult_spec s jd j
  exact ⟨t, hexec, hreg ▸ onCurve_toReg h hj⟩

/-- Settles O52: the cores keep the equation in the field, and what they give is reduced and so stored. -/
theorem jacobianStepsStayOnCurve : Obligations.JacobianStepsStayOnCurve := by
  refine ⟨fun jd js1 s hj => ?jdbl, fun jd js1 ps2 s hj hq => ?jaddm, fun p k n hp => ?loop⟩
  case jdbl =>
    exact jacResult_onCurve (onCurve_jdblCore ((onCurve_jac_iff _).2 hj)) (reduced_jdblCore _) s jd
  case jaddm =>
    exact jacResult_onCurve (onCurve_jaddmCore ((onCurve_jac_iff _).2 hj) hq)
      (reduced_jaddmCore (reduced_readJ s js1) (reduced_readA s ps2)) s jd
  case loop => exact onCurve_pmulLoop hp k n onCurve_infinity

end Sys2Proof.Machine
end

section
/-! SUPPORT. The Jacobian step commands JDBL and JADDM, read in the field (spec R232, R233, R248, R249). -/

namespace Sys2Proof.Machine

/-- Settles O48: the core's two cases, each stored by the rule for Jacobian results. -/
theorem jdblGivesDoublingFormula : Obligations.JdblGivesDoublingFormula := by
  intro jd js1 s
  refine ⟨encode_and_mask rfl (opOf_cmdWord ..) rfl, ?_⟩
  intro X Y Z M S X3
  have hj : (s.readJ js1).Is X Y Z := jac_is _
  have hzero : (s.readJ js1).Z = 0 ↔ Z = 0 := (reduced_readJ s js1).Z_eq_zero_iff_of_is hj
  obtain ⟨t, hexec, hframe, hreg, ht, hc, hz⟩ := jacResult_spec s jd (jdblCore (s.readJ js1))
  refine ⟨t, hexec, hframe, hc, hz, ?_⟩
  by_cases hZ : Z = 0
  · have hstored := storesJac_of_is (reduced_jdblCore _)
      (jdblCore_zero (hzero.2 hZ) ▸ is_infinity) hreg ht
    exact ⟨fun _ => hstored.of_zero rfl, fun hne => absurd hZ hne⟩
  · have hstored := storesJac_of_is (reduced_jdblCore _)
      (jdblCore_is rfl rfl rfl (hzero.not.2 hZ) hj) hreg ht
    exact ⟨fun h => hstored.of_zero (h.resolve_left hZ), fun _ h => hstored.of_nonzero h⟩

/-- Settles O49: the core's five cases, each stored by the rule for Jacobian results. -/
theorem jaddmGivesMixedAddition : Obligations.JaddmGivesMixedAddition := by
  intro jd js1 ps2 s
  refine ⟨encode_and_mask rfl (opOf_cmdWord ..) rfl, ?_⟩
  intro p X Y Z x2 y2 H r V X3
  have hj : (s.readJ js1).Is X Y Z := jac_is _
  have hzero : (s.readJ js1).Z = 0 ↔ Z = 0 := (reduced_readJ s js1).Z_eq_zero_iff_of_is hj
  have hx : (fp p.x.toNat : ZMod Config.SM2_p) = x2 := fp_cast _
  have hy : (fp p.y.toNat : ZMod Config.SM2_p) = y2 := fp_cast _
  obtain ⟨t, hexec, hframe, hreg, ht, hc, hz⟩ :=
    jacResult_spec s jd (jaddmCore (s.readJ js1) (s.readA ps2))
  obtain ⟨u, hexecu, -, hregu, htu, -⟩ := jacResult_spec s jd (jdblCore (s.readJ js1))
  have hred := reduced_jaddmCore (reduced_readJ s js1) (reduced_readA s ps2)
  refine ⟨t, u, hexec, hexecu, hframe, hc, hz, ?_⟩
  have hstores {j : Jac} {a b c : ZMod Config.SM2_p} (h : jaddmCore (s.readJ js1) (s.readA ps2) = j)
      (his : j.Is a b c) : StoresJac t jd a b c :=
    storesJac_of_is hred (h ▸ his) hreg ht
  have hpoint (h : p.inf = false) := congrArg (jaddmCore (s.readJ js1)) (readA_of_finite h)
  refine ⟨fun hp => ?pointInfinity, fun hp hZ => ?jacInfinity, fun hp hZ hH hr => ?equal,
    fun hp hZ hH hr => ?opposite, fun hp hZ hH => ?generic⟩
  case pointInfinity => exact hstores (congrArg _ (readA_of_inf hp)) hj
  case jacInfinity =>
    exact hstores ((hpoint hp).trans (jaddmCore_zero (hzero.2 hZ) _ _)) ⟨hx, hy, Nat.cast_one⟩
  case equal =>
    have h := (hpoint hp).trans (jaddmCore_equal (hzero.not.2 hZ) hj hx hy rfl rfl hH hr)
    rw [hreg, ht, hregu, htu, h]
    exact ⟨rfl, rfl⟩
  case opposite =>
    exact hstores ((hpoint hp).trans
      (jaddmCore_opposite (hzero.not.2 hZ) hj hx hy rfl rfl hH hr)) is_infinity
  case generic =>
    exact hstores (hpoint hp) (jaddmCore_is (hzero.not.2 hZ) hj hx hy rfl rfl hH rfl rfl)

end Sys2Proof.Machine
end

section
/-! SUPPORT. The affine point commands: loads, stores, tests, negation and the two conversions (spec R230,
R236 to R241, R245 to R247). -/

namespace Sys2Proof.Machine

/-! ### Residues as numbers -/

/-- A residue that is `w` in the field is `w` mod p. -/
theorem eq_mod_of_cast {v w : Nat} (hv : v < Config.SM2_p)
    (h : (v : ZMod Config.SM2_p) = (w : ZMod Config.SM2_p)) : v = w % Config.SM2_p := by
  rwa [ZMod.natCast_eq_natCast_iff', Nat.mod_eq_of_lt hv] at h

/-- Negation mod p of a reduced operand, as an integer (R206, R241). -/
theorem fSub_zero_fp_int (y : Nat) : (fSub 0 (fp y) : Int) = (0 - (y : Int)) % Config.SM2_p := by
  rw [fSub, subMod_int 0 (fp y) p_pos.ne', fp, Int.natCast_mod, Int.sub_emod_emod]
  rfl

/-- The inverse of R207 in the field: the power of Fermat. -/
theorem fInv_cast (a : Nat) :
    (fInv a : ZMod Config.SM2_p) = (a : ZMod Config.SM2_p) ^ (Config.SM2_p - 2) := by
  rw [fInv_eq, ZMod.natCast_mod, Nat.cast_pow]

/-! ### Loads and stores (R236 to R239) -/

/-- PST of infinity (R237). -/
theorem exec_pst_infinity {rdp : RPair} {ps1 : PReg} {s : State} (hpair : pairEven rdp = true)
    (h : s.readA ps1 = .infinity) :
    exec (.pst rdp ps1) s = succeed ((s.writePair rdp 0 0).setT true) :=
  (withPair_even hpair s _).trans (by rw [h])

/-- PST of a finite point (R237). -/
theorem exec_pst_affine {rdp : RPair} {ps1 : PReg} {s : State} {x y : Nat} (hpair : pairEven rdp = true)
    (h : s.readA ps1 = .affine x y) : exec (.pst rdp ps1) s =
      succeed ((s.writePair rdp (BitVec.ofNat 256 x) (BitVec.ofNat 256 y)).setT false) :=
  (withPair_even hpair s _).trans (by rw [h])

/-- Settles O44: each load writes one point; PST has one case for each value of the infinity bit. -/
theorem pointLoadsAndStores : Obligations.PointLoadsAndStores := by
  intro pd ps1 rs1 rs2 rdp s
  refine ⟨encode_and_mask rfl (opOf_cmdWord ..) rfl, encode_and_mask rfl (opOf_cmdWord ..) rfl,
    encode_and_mask rfl (opOf_cmdWord ..) rfl, ?pld, succeed_writeA_spec s pd .infinity, ?pldg,
    fun hpair => ⟨encode_and_mask hpair (opOf_cmdWord ..) rfl, ?pst⟩⟩
  case pld =>
    obtain ⟨t, hexec, hframe, hflags, hreg⟩ :=
      succeed_writeA_spec s pd (.affine (fp (s.natR rs1)) (fp (s.natR rs2)))
    obtain ⟨hx, hy⟩ := toReg_affine_toNat (fp_lt (s.natR rs1)) (fp_lt (s.natR rs2))
    exact ⟨t, hexec, hframe, hflags, hreg ▸ hx, hreg ▸ hy, hreg ▸ rfl⟩
  case pldg =>
    obtain ⟨t, hexec, hframe, hflags, hreg⟩ :=
      succeed_writeA_spec s pd (.affine Config.SM2_Gx Config.SM2_Gy)
    obtain ⟨hx, hy⟩ := toReg_affine_toNat (x := Config.SM2_Gx) (y := Config.SM2_Gy) (by decide) (by decide)
    exact ⟨t, hexec, hframe, hflags, hreg ▸ hx, hreg ▸ hy, hreg ▸ rfl⟩
  case pst =>
    intro p
    cases hp : p.inf with
    | true =>
      obtain ⟨t, hexec, hframe, hlo, hhi, ht, hflags⟩ := succeed_writePair_spec s rdp 0 0 true
      exact ⟨t, (exec_pst_infinity hpair (readA_of_inf hp)).trans hexec, hframe, hlo ▸ rfl, hhi ▸ rfl, ht,
        hflags⟩
    | false =>
      obtain ⟨t, hexec, hframe, hlo, hhi, ht, hflags⟩ := succeed_writePair_spec s rdp
        (BitVec.ofNat 256 (fp p.x.toNat)) (BitVec.ofNat 256 (fp p.y.toNat)) false
      exact ⟨t, (exec_pst_affine hpair (readA_of_finite hp)).trans hexec, hframe,
        hlo ▸ toNat_ofNat_of_lt (fp_lt _), hhi ▸ toNat_ofNat_of_lt (fp_lt _), ht, hflags⟩

/-! ### Tests (R230, R240, R245) -/

/-- The on-curve test on the stored coordinates (R230, R240). -/
theorem onCurve_point (r : AffReg) : r.point.onCurve =
    (r.inf || decide (r.y.toNat ^ 2 % Config.SM2_p =
      ((r.x.toNat ^ 2 + Config.SM2_a) * r.x.toNat + Config.SM2_b) % Config.SM2_p)) := by
  cases h : r.inf with
  | true => rw [point_of_inf h]; rfl
  | false =>
    rw [point_of_finite h, Bool.false_or, Bool.eq_iff_iff, onCurve_affine_iff, decide_eq_true_iff,
      ← ZMod.natCast_eq_natCast_iff']
    push_cast [fp_cast]
    constructor <;> intro heq <;> linear_combination heq

/-- Equality of two points on the stored coordinates (R245). -/
theorem point_beq_point (r q : AffReg) : (r.point == q.point) =
    ((r.inf && q.inf) || (!r.inf && !q.inf && decide (r.x.toNat % Config.SM2_p = q.x.toNat % Config.SM2_p ∧
      r.y.toNat % Config.SM2_p = q.y.toNat % Config.SM2_p))) := by
  rw [Bool.eq_iff_iff, beq_iff_eq]
  cases hr : r.inf with
  | true =>
    rw [point_of_inf hr]
    cases hq : q.inf with
    | true => simp [point_of_inf hq]
    | false => simp [point_of_finite hq]
  | false =>
    rw [point_of_finite hr]
    cases hq : q.inf with
    | true => simp [point_of_inf hq]
    | false => simp [point_of_finite hq, fp]

/-- Settles O45: both commands write T only. -/
theorem pointTestsGiveT : Obligations.PointTestsGiveT := by
  intro ps1 ps2 s
  exact ⟨encode_and_mask rfl (opOf_cmdWord ..) rfl, encode_and_mask rfl (opOf_cmdWord ..) rfl,
    ⟨_, rfl, writesR_none s s.data.c s.data.z _, onCurve_point _, rfl, rfl⟩,
    ⟨_, rfl, writesR_none s s.data.c s.data.z _, point_beq_point _ _, rfl, rfl⟩⟩

/-! ### Negation (R241) -/

theorem negCore_isInfinity (p : Point) : (negCore p).isInfinity = p.isInfinity := by cases p <;> rfl

/-- Settles O46: one case for each value of the infinity bit. -/
theorem pnegFlipsY : Obligations.PnegFlipsY := by
  intro pd ps1 s
  refine ⟨encode_and_mask rfl (opOf_cmdWord ..) rfl, ?_⟩
  intro p
  obtain ⟨t, hexec, hframe, hreg, ht, hc, hz⟩ := pointResult_spec s pd (negCore (s.readA ps1))
  refine ⟨t, hexec, hframe, ?_, hc, hz, fun hp => ?infinity, fun hp => ?finite⟩
  · rw [ht, negCore_isInfinity, State.readA, point_isInfinity]
  case infinity =>
    rw [hreg, readA_of_inf hp]
    rfl
  case finite =>
    obtain ⟨hx, hy⟩ := toReg_affine_toNat (fp_lt p.x.toNat) (fSub_lt 0 (fp p.y.toNat))
    rw [hreg, readA_of_finite hp]
    exact ⟨rfl, hx, (congrArg Nat.cast hy).trans (fSub_zero_fp_int _)⟩

/-! ### Conversions (R246, R247, R234) -/

theorem jtoaCore_zero {j : Jac} (h : j.Z = 0) : jtoaCore j = .infinity := if_pos h

/-- The conversion of a finite triple: X·zi² and Y·zi³ with zi the inverse of Z (R234). -/
theorem jtoaCore_nonzero (r : JacReg) (h : r.jac.Z ≠ 0) : jtoaCore r.jac =
    .affine (r.X.toNat * (r.Z.toNat ^ (Config.SM2_p - 2)) ^ 2 % Config.SM2_p)
      (r.Y.toNat * (r.Z.toNat ^ (Config.SM2_p - 2)) ^ 3 % Config.SM2_p) := by
  refine (if_neg h).trans (congrArg₂ Point.affine (eq_mod_of_cast (fMul_lt _ _) ?_)
    (eq_mod_of_cast (fMul_lt _ _) ?_)) <;>
    simp only [fMul_cast, fInv_cast, (jac_is r).X, (jac_is r).Y, (jac_is r).Z, Nat.cast_mul, Nat.cast_pow] <;>
    ring

/-- Settles O47: JFROM by the infinity bit, JTOA by Z mod p. -/
theorem conversionsBetweenForms : Obligations.ConversionsBetweenForms := by
  intro pd ps1 jd js1 s
  refine ⟨encode_and_mask rfl (opOf_cmdWord ..) rfl, encode_and_mask rfl (opOf_cmdWord ..) rfl, ?_⟩
  intro p j m
  constructor
  · obtain ⟨t, hexec, hframe, hreg, ht, hc, hz⟩ :=
      succeed_writeJ_spec s jd (jfromCore (s.readA ps1)) (s.readA ps1).isInfinity
    refine ⟨t, hexec, hframe, ht.trans (point_isInfinity p), hc, hz, fun hp => ?infinity, fun hp => ?finite⟩
    case infinity =>
      rw [hreg, readA_of_inf hp]
      rfl
    case finite =>
      rw [hreg, readA_of_finite hp]
      exact ⟨toNat_ofNat_of_lt (fp_lt _), toNat_ofNat_of_lt (fp_lt _), rfl⟩
  · obtain ⟨t, hexec, hframe, hreg, ht, hc, hz⟩ := pointResult_spec s pd (jtoaCore (s.readJ js1))
    refine ⟨t, hexec, hframe, hc, hz, fun hZ => ?zero, fun hZ => ?nonzero⟩
    case zero =>
      rw [hreg, ht, jtoaCore_zero hZ]
      exact ⟨rfl, rfl⟩
    case nonzero =>
      have hcore := jtoaCore_nonzero j hZ
      obtain ⟨hx, hy⟩ := toReg_affine_toNat
        (Nat.mod_lt (j.X.toNat * (j.Z.toNat ^ (m - 2)) ^ 2) p_pos)
        (Nat.mod_lt (j.Y.toNat * (j.Z.toNat ^ (m - 2)) ^ 3) p_pos)
      rw [hreg, ht, State.readJ, hcore]
      exact ⟨rfl, rfl, hx, hy⟩

end Sys2Proof.Machine
end

section
/-! SUPPORT. PADD and PDBL as JFROM, one Jacobian step and JTOA in turn (spec R234, R242, R243). -/

namespace Sys2Proof.Machine

/-! ### To Jacobian form and back (R234) -/

/-- A power of 1 below the modulus. The exponent is a variable here, so that no check evaluates the power. -/
theorem one_pow_mod {m : Nat} (h : 1 < m) (k : Nat) : 1 ^ k % m = 1 := by
  rw [one_pow, Nat.mod_eq_of_lt h]

theorem fInv_one : fInv 1 = 1 := (fInv_eq 1).trans (one_pow_mod one_lt_p _)

theorem jtoaCore_jfromCore {q : Point} (h : q.Reduced) : jtoaCore (jfromCore q) = q := by
  cases q with
  | infinity => rfl
  | affine x y =>
    have hone : fMul 1 1 = 1 := by decide
    have hmul (v : Nat) (hv : v < Config.SM2_p) : fMul v 1 = v := by rw [fMul, mul_one, fp_of_lt hv]
    simp [jtoaCore, jfromCore, fInv_one, hone, hmul x h.1, hmul y h.2]

theorem reduced_jtoaCore (j : Jac) : (jtoaCore j).Reduced := by
  unfold jtoaCore
  split
  · trivial
  · exact ⟨fMul_lt _ _, fMul_lt _ _⟩

/-- Storing a triple as the canonical infinity does not change its affine point (R38, R247). -/
theorem Jac.Reduced.jtoaCore_toReg {j : Jac} (h : j.Reduced) : jtoaCore j.toReg.jac = jtoaCore j := by
  rw [toReg_jac h.X h.Y h.Z]
  split
  next hZ => rw [jtoaCore_zero hZ]; rfl
  next => rfl

theorem Point.Reduced.jfromCore_toReg {q : Point} (h : q.Reduced) :
    (Machine.jfromCore q).toReg.jac = Machine.jfromCore q := by
  have hred := h.jfromCore
  rw [toReg_jac hred.X hred.Y hred.Z]
  cases q with
  | infinity => rfl
  | affine x y => rfl

/-- A triple is added to infinity by converting the point (R233, R234). -/
theorem jaddmCore_jacInfinity (q : Point) : jaddmCore Jac.infinity q = jfromCore q := by cases q <;> rfl

/-! ### The three commands in turn (R242, R243) -/

theorem readA_idle {s : State} (h : s.inflight = none) (i : PReg) : s.readA i = s.data.pa[i].point := by
  rw [State.readA, src_of_none h]

theorem readJ_idle {s : State} (h : s.inflight = none) (i : JReg) : s.readJ i = s.data.pj[i].jac := by
  rw [State.readJ, src_of_none h]

theorem WritesPA.pa_eq {s t : State} {pd : PReg} (h : WritesPA s t pd) :
    t.data.pa = s.data.pa.set pd t.data.pa[pd] := by
  refine Vector.ext fun i hi => ?_
  by_cases hpd : (⟨i, hi⟩ : PReg) = pd
  · subst hpd
    exact (vset_same s.data.pa ⟨i, hi⟩ _).symm
  · exact (h.pa ⟨i, hi⟩ (by simpa using hpd)).trans (vset_other s.data.pa _ hpd).symm

theorem WritesPJ.pa_eq {s t : State} {jd : JReg} (h : WritesPJ s t jd) : t.data.pa = s.data.pa :=
  Vector.ext fun i hi => h.pa ⟨i, hi⟩ List.not_mem_nil

/-- JFROM, a Jacobian step on the same register and JTOA: the affine registers and T at the end. The step
still reads the affine registers of the start. -/
theorem jacobianRoute_spec (s : State) (pd ps1 : PReg) (j : JReg) {f : Jac → Jac} {p : Point}
    (hred : (f (jfromCore (s.readA ps1))).Reduced) (hp : jtoaCore (f (jfromCore (s.readA ps1))) = p) :
    ∃ t₁ t₂ t₃, exec (.jfrom j ps1) s = .next t₁ ∧ t₁.jacResult j (f (t₁.readJ j)) = .next t₂ ∧
      exec (.jtoa pd j) t₂ = .next t₃ ∧ (∀ i, t₁.readA i = s.data.pa[i].point) ∧
      t₃.data.pa = s.data.pa.set pd p.toReg ∧ t₃.data.t = p.isInfinity := by
  obtain ⟨t₁, h₁, hframe₁, hreg₁, -⟩ :=
    succeed_writeJ_spec s j (jfromCore (s.readA ps1)) (s.readA ps1).isInfinity
  obtain ⟨t₂, h₂, hframe₂, hreg₂, -⟩ := jacResult_spec t₁ j (f (t₁.readJ j))
  obtain ⟨t₃, h₃, hframe₃, hreg₃, ht₃, -⟩ := pointResult_spec t₂ pd (jtoaCore (t₂.readJ j))
  have hfrom : t₁.readJ j = jfromCore (s.readA ps1) := by
    rw [readJ_idle hframe₁.inflight, hreg₁, (reduced_readA s ps1).jfromCore_toReg]
  have hcore : jtoaCore (t₂.readJ j) = p := by
    rw [readJ_idle hframe₂.inflight, hreg₂, hfrom, hred.jtoaCore_toReg, hp]
  refine ⟨t₁, t₂, t₃, h₁, h₂, h₃, fun i => ?_, ?_, hcore ▸ ht₃⟩
  · rw [readA_idle hframe₁.inflight, hframe₁.pa_eq]
  · rw [hframe₃.pa_eq, hreg₃, hcore, hframe₂.pa_eq, hframe₁.pa_eq]

/-- Settles O50: each command writes the point at the end of its route, and infinity as an operand leaves
the other point converted there and back. -/
theorem affineStepsAreJacobianSteps : Obligations.AffineStepsAreJacobianSteps := by
  intro pd ps1 ps2 j s hsrc
  have hread (i : PReg) : s.readA i = s.data.pa[i].point := by rw [State.readA, hsrc]
  have hinf {i : PReg} (h : s.data.pa[i].inf = true) : s.readA i = .infinity :=
    (hread i).trans (point_of_inf h)
  have hfrom : (jfromCore (s.readA ps1)).Reduced := (reduced_readA s ps1).jfromCore
  refine ⟨encode_and_mask rfl (opOf_cmdWord ..) rfl, encode_and_mask rfl (opOf_cmdWord ..) rfl,
    ?padd, ?pdbl⟩
  case padd =>
    obtain ⟨t, hexec, hframe, hreg, ht, hc, hz⟩ := pointResult_spec s pd
      (jtoaCore (jaddmCore (jfromCore (s.readA ps1)) (s.readA ps2)))
    obtain ⟨t₁, t₂, t₃, h₁, h₂, h₃, hread₁, hpa₃, ht₃⟩ := jacobianRoute_spec s pd ps1 j
      (f := fun J => jaddmCore J (s.readA ps2)) (reduced_jaddmCore hfrom (reduced_readA s ps2)) rfl
    rw [hread ps2, ← hread₁ ps2] at h₂
    have hpoint : t.data.pa[pd].point = jtoaCore (jaddmCore (jfromCore (s.readA ps1)) (s.readA ps2)) := by
      rw [hreg, (reduced_jtoaCore _).point_toReg]
    refine ⟨t, t₁, t₂, t₃, hexec, h₁, h₂, h₃, hframe, hc, hz, by rw [hframe.pa_eq, hreg, hpa₃],
      ht.trans ht₃.symm, by rw [ht, hreg, toReg_inf], fun h => ?right, fun h => ?left⟩
    case right => rw [hpoint, hinf h, jaddmCore, jtoaCore_jfromCore (reduced_readA s ps1), hread]
    case left =>
      rw [hpoint, hinf h, jfromCore, jaddmCore_jacInfinity, jtoaCore_jfromCore (reduced_readA s ps2), hread]
  case pdbl =>
    obtain ⟨t, hexec, hframe, hreg, ht, hc, hz⟩ := pointResult_spec s pd
      (jtoaCore (jdblCore (jfromCore (s.readA ps1))))
    obtain ⟨t₁, t₂, t₃, h₁, h₂, h₃, -, hpa₃, ht₃⟩ := jacobianRoute_spec s pd ps1 j
      (f := jdblCore) (reduced_jdblCore _) rfl
    refine ⟨t, t₁, t₂, t₃, hexec, h₁, h₂, h₃, hframe, hc, hz, by rw [hframe.pa_eq, hreg, hpa₃],
      ht.trans ht₃.symm, by rw [ht, hreg, toReg_inf], fun h => ?_⟩
    rw [hreg, hinf h]
    rfl

end Sys2Proof.Machine
end

section
/-! SUPPORT. Scalar multiplication: the accumulators of double-and-add, and the order of the generator (spec
R235, R244, R251). -/

namespace Sys2Proof.Machine

/-- One round of the loop: double, then add the point when the bit is set (R235). -/
def pmulRound (p : Point) (bit : Bool) (acc : Jac) : Jac :=
  if bit then jaddmCore (jdblCore acc) p else jdblCore acc

theorem pmulLoop_succ (p : Point) (k n : Nat) (acc : Jac) :
    pmulLoop p k (n + 1) acc = pmulLoop p k n (pmulRound p (k.testBit n) acc) := rfl

/-- The last round of the loop reads bit 0, and the rounds before it run the loop on k / 2. -/
theorem pmulLoop_succ_last (p : Point) (k n : Nat) (acc : Jac) :
    pmulLoop p k (n + 1) acc = pmulRound p (k.testBit 0) (pmulLoop p (k / 2) n acc) := by
  induction n generalizing acc with
  | zero => rfl
  | succ n ih => rw [pmulLoop_succ, ih, pmulLoop_succ p (k / 2), Nat.testBit_succ]

/-- The accumulator once the scalar bits from the top down to bit i are read: the loop run on those bits
alone. -/
def pmulAcc (p : Point) (k i : Nat) : Jac := pmulLoop p (k / 2 ^ i) (bitlen k - i) Jac.infinity

theorem pmulAcc_bitlen (p : Point) (k : Nat) : pmulAcc p k (bitlen k) = Jac.infinity := by
  rw [pmulAcc, Nat.sub_self]
  rfl

theorem pmulAcc_step (p : Point) (k : Nat) {i : Nat} (hi : i < bitlen k) :
    pmulAcc p k i = pmulRound p (k.testBit i) (pmulAcc p k (i + 1)) := by
  have hbit : (k / 2 ^ i).testBit 0 = k.testBit i := by rw [Nat.testBit_div_two_pow, zero_add]
  rw [pmulAcc, pmulAcc, show bitlen k - i = bitlen k - (i + 1) + 1 by omega, pmulLoop_succ_last, hbit,
    Nat.div_div_eq_div_mul, ← pow_succ]

theorem pmulCore_infinity {p : Point} {k : Nat} (h : k = 0 ∨ p = .infinity) :
    pmulCore p k = .infinity := if_pos h

/-- The result is the last accumulator, converted once (R235). -/
theorem pmulCore_finite {p : Point} {k : Nat} (hk : k ≠ 0) (hp : p ≠ .infinity) :
    pmulCore p k = jtoaCore (pmulAcc p k 0) := by
  rw [pmulCore, if_neg (not_or.2 ⟨hk, hp⟩), pmulAcc, pow_zero, Nat.div_one, Nat.sub_zero]

/-- Multiplication by 1 (R244): the one round adds the point to infinity. -/
theorem pmulCore_one {p : Point} (h : p.Reduced) : pmulCore p 1 = p := by
  cases p with
  | infinity => rfl
  | affine x y =>
    have hacc : pmulAcc (.affine x y) 1 0 = jfromCore (.affine x y) := rfl
    rw [pmulCore_finite (p := .affine x y) one_ne_zero nofun, hacc, jtoaCore_jfromCore h]

/-- Settles O51: the accumulators meet the loop's equations, and the last one is converted. -/
theorem pmulIsDoubleAndAdd : Obligations.PmulIsDoubleAndAdd := by
  intro pd ps1 rs2 s
  refine ⟨encode_and_mask rfl (opOf_cmdWord ..) rfl, ?_⟩
  intro k p
  obtain ⟨t, hexec, hframe, hreg, ht, hc, hz⟩ := pointResult_spec s pd (pmulCore p.point k)
  refine ⟨t, pmulAcc p.point k, bitlen k, hexec, hframe, hc, hz, by rw [ht, hreg, toReg_inf],
    fun h => ?infinity, fun h => ?one, lt_two_pow_bitlen k, fun _ => bitlen_le, pmulAcc_bitlen _ _,
    fun i hi => pmulAcc_step _ _ hi, fun hk hp => ?finite⟩
  case infinity =>
    rw [hreg, pmulCore_infinity (h.imp_right point_of_inf)]
    rfl
  case one => rw [hreg, h, pmulCore_one (reduced_point p), (reduced_point p).point_toReg]
  case finite => rw [hreg, pmulCore_finite hk (point_of_finite hp ▸ nofun)]

/-! ### The generator (R239, R251) -/

/-- The generator (R239). -/
def generator : Point := .affine Config.SM2_Gx Config.SM2_Gy

theorem onCurve_generator : generator.onCurve = true := by decide +kernel

/-- n·G = O, by evaluation (R251). -/
theorem pmulCore_generator_n : pmulCore generator Config.SM2_n = .infinity := by decide +kernel

/-- (n − 1)·G = −G, by evaluation (R251). -/
theorem pmulCore_generator_pred :
    pmulCore generator (Config.SM2_n - 1) = negCore generator := by decide +kernel

/-- Settles O53: the three values of the cores at the generator. -/
theorem generatorHasOrderN : Obligations.GeneratorHasOrderN := by
  intro pd ps1 rs2 s hG
  refine ⟨⟨_, rfl, ?onCurve⟩, fun hk => ?order, fun hk => ?pred⟩
  case onCurve => exact (congrArg Point.onCurve hG).trans onCurve_generator
  case order =>
    obtain ⟨t, hexec, -, hreg, ht, -⟩ := pointResult_spec s pd (pmulCore (s.readA ps1) (s.natR rs2))
    rw [hG, hk, ← generator, pmulCore_generator_n] at hreg ht
    exact ⟨t, hexec, hreg, ht⟩
  case pred =>
    obtain ⟨t, hexec, -, hreg, ht, -⟩ := pointResult_spec s pd (pmulCore (s.readA ps1) (s.natR rs2))
    obtain ⟨u, hexecu, -, hregu, -⟩ := pointResult_spec s pd (negCore (s.readA ps1))
    rw [hG, hk, ← generator, pmulCore_generator_pred] at hreg ht
    rw [hG, ← generator] at hregu
    exact ⟨t, u, hexec, hexecu, hreg.trans hregu.symm, ht⟩

end Sys2Proof.Machine
end

section
/-! SUPPORT. The SM3 commands: the message expansion, the compression rounds and the chaining value (spec R39,
R280 to R288). -/

namespace Sys2Proof.Machine

/-- A command that only writes V: the value and the frame. -/
theorem succeed_setV_spec (s : State) (v : W256) :
    ∃ t, succeed (s.setV v) = .next t ∧ WritesV s t ∧ t.data.v = v :=
  ⟨_, rfl, writesV_finish s v, setV_data_v s v⟩

/-- Settles O54: each command is one write of V or of the register. -/
theorem chainingValueMoves : Obligations.ChainingValueMoves := by
  intro rd rs1 s
  exact ⟨rfl, encode_and_mask rfl (opOf_cmdWord ..) rfl, encode_and_mask rfl (opOf_cmdWord ..) rfl,
    succeed_setV_spec s Config.SM3_IV, succeed_writeR_spec s rd s.src.v,
    succeed_setV_spec s (s.readR rs1)⟩

/-! ### Message expansion (R281, R283) -/

/-- The expansion only appends words (R283). -/
theorem getD_sm3Extend_of_lt {ws : List Word} {j : Nat} (hj : j < ws.length) (n : Nat) :
    (sm3Extend n ws).getD j 0 = ws.getD j 0 := by
  induction n generalizing ws with
  | zero => rfl
  | succ n ih => rw [sm3Extend, ih (by simp; omega), List.getD_append _ _ _ _ hj]

/-- W_j reads only earlier words (R283). -/
theorem sm3NextWord_congr {us ws : List Word} {j : Nat} (hj : 16 ≤ j)
    (h : ∀ i < j, us.getD i 0 = ws.getD i 0) : sm3NextWord us j = sm3NextWord ws j := by
  simp only [sm3NextWord, h (j - 16) (by omega), h (j - 13) (by omega), h (j - 9) (by omega),
    h (j - 6) (by omega), h (j - 3) (by omega)]

/-- Every appended word meets the recurrence in the finished list (R283). -/
theorem getD_sm3Extend_of_ge {n : Nat} {ws : List Word} {j : Nat} (hlen : 16 ≤ ws.length)
    (hj : ws.length ≤ j) (hn : j < ws.length + n) :
    (sm3Extend n ws).getD j 0 = sm3NextWord (sm3Extend n ws) j := by
  induction n generalizing ws with
  | zero => omega
  | succ n ih =>
    rcases hj.eq_or_lt with rfl | hlt
    · calc (sm3Extend n (ws ++ [sm3NextWord ws ws.length])).getD ws.length 0
          = (ws ++ [sm3NextWord ws ws.length]).getD ws.length 0 := getD_sm3Extend_of_lt (by simp) n
        _ = sm3NextWord ws ws.length := by simp
        _ = sm3NextWord (sm3Extend (n + 1) ws) ws.length :=
          sm3NextWord_congr hlen fun i hi => (getD_sm3Extend_of_lt hi (n + 1)).symm
    · exact ih (by simp; omega) (by simpa using hlt) (by simp; omega)

/-- The first 16 words are those of the block, most significant first (R281). -/
theorem getD_sm3Expand_block (lo hi : W256) {j : Nat} (hj : j < 8) :
    (sm3Expand lo hi).getD j 0 = lo.extractLsb' (224 - 32 * j) 32 ∧
      (sm3Expand lo hi).getD (8 + j) 0 = hi.extractLsb' (224 - 32 * j) 32 := by
  have hlen : (beWords lo ++ beWords hi).length = 16 := rfl
  rw [sm3Expand, getD_sm3Extend_of_lt (by omega), getD_sm3Extend_of_lt (by omega)]
  interval_cases j <;> exact ⟨rfl, rfl⟩

/-- The other 52 words are those of the recurrence (R283). -/
theorem getD_sm3Expand_next (lo hi : W256) {j : Nat} (hge : 16 ≤ j) (hle : j ≤ 67) :
    (sm3Expand lo hi).getD j 0 = sm3NextWord (sm3Expand lo hi) j :=
  have hlen : (beWords lo ++ beWords hi).length = 16 := rfl
  getD_sm3Extend_of_ge hlen.ge (hlen.trans_le hge) (by omega)

/-! ### Compression (R284) -/

/-- The working registers before round j (R284). -/
def sm3RegsAt (w : List Word) (r : Sm3Regs) (j : Nat) : Sm3Regs := (List.range j).foldl (sm3Round w) r

theorem sm3RegsAt_succ (w : List Word) (r : Sm3Regs) (j : Nat) :
    sm3RegsAt w r (j + 1) = sm3Round w (sm3RegsAt w r j) j := by
  simp [sm3RegsAt, List.range_succ]

/-- The 64 rounds end in the registers before a round 64 (R284). -/
theorem sm3Rounds_eq (w : List Word) (r : Sm3Regs) : sm3Rounds w r = sm3RegsAt w r 64 := rfl

/-- Word j of the concatenated registers is register j: the 7 − j words below it are dropped (R39). -/
theorem extractLsb'_toV (r : Sm3Regs) {j : Nat} (hj : j < 8) :
    r.toV.extractLsb' (224 - 32 * j) 32 = [r.A, r.B, r.C, r.D, r.E, r.F, r.G, r.H].getD j 0 := by
  rw [Sm3Regs.toV]
  interval_cases j <;> repeat rw [BitVec.extractLsb'_append_eq_of_le (by decide)]
  · exact BitVec.extractLsb'_eq_self
  all_goals exact BitVec.extractLsb'_append_eq_right

/-- On an even pair SM3CF only writes the compressed block into V (R286). -/
theorem exec_sm3cf {k : RPair} (h : pairEven k = true) (s : State) : exec (.sm3cf k) s =
    succeed (s.setV (sm3CF s.src.v (s.readR k) (s.readR (pairHigh k)))) := withPair_even h s _

/-- Settles O55: the message words and the registers before each round are those the model computes. -/
theorem sm3cfCompressesBlock : Obligations.Sm3cfCompressesBlock := by
  intro k s hpair
  refine ⟨encode_and_mask hpair (opOf_cmdWord ..) rfl, ?_⟩
  obtain ⟨t, hexec, hframe, hv⟩ :=
    succeed_setV_spec s (sm3CF s.src.v (s.readR k) (s.readR (pairHigh k)))
  refine ⟨t, fun j => (sm3Expand (s.readR k) (s.readR (pairHigh k))).getD j 0,
    sm3RegsAt (sm3Expand (s.readR k) (s.readR (pairHigh k))) (.ofV s.src.v),
    (exec_sm3cf hpair s).trans hexec, hframe, fun j => getD_sm3Expand_block _ _,
    fun j => getD_sm3Expand_next _ _, rfl, fun j hj => ?round, fun j hj => ?chain⟩
  case round =>
    rw [sm3RegsAt_succ]
    simp only [sm3Round, sm3T, sm3FF, sm3GG, sm3P0, Nat.lt_succ_iff]
    rfl
  case chain =>
    rw [hv, sm3CF, sm3Rounds_eq, BitVec.extractLsb'_xor, extractLsb'_toV _ hj, BitVec.xor_comm]

end Sys2Proof.Machine
end

section
/-! SUPPORT. The SM4 commands: how the block and word commands end, the Feistel rounds as a sequence of words
and their inversion, the key expansion, the S-box and the two diffusions (spec R300 to R327). -/

namespace Sys2Proof.Machine

/-! ### How the commands end -/

/-- A block command with a key only writes its zero-extended block (R301, R321, R322). -/
theorem blockCommand_spec {s : State} (hkeyv : s.src.keyv = true) (rd rs1 : RReg)
    (f : Vector Word 32 → BitVec 128 → BitVec 128) :
    ∃ t, blockCommand rd rs1 f s = .next t ∧ WritesR s t [rd] ∧ KeepsFlags s t ∧
      t.data.r[rd] = (f s.src.rk (low128 (s.readR rs1))).setWidth 256 := by
  rw [blockCommand, if_pos hkeyv]
  exact succeed_writeR_spec s rd _

/-- A block command without a key ends with NO_KEY (R321, R322, R403). -/
theorem blockCommand_noKey {s : State} (hkeyv : s.src.keyv = false) (rd rs1 : RReg)
    (f : Vector Word 32 → BitVec 128 → BitVec 128) :
    ∃ t, blockCommand rd rs1 f s = .next t ∧ Fails .noKey s t := by
  rw [blockCommand, if_neg (by simp [hkeyv])]
  exact ⟨_, rfl, fails_raised .noKey s⟩

/-- A word command only writes its zero-extended word (R323 to R327). -/
theorem wordCommand_spec (s : State) (rd rs1 : RReg) (f : Word → Word) :
    ∃ t, wordCommand rd rs1 f s = .next t ∧ WritesR s t [rd] ∧ KeepsFlags s t ∧
      t.data.r[rd] = (f (low32 (s.readR rs1))).setWidth 256 :=
  succeed_writeR_spec s rd _

theorem wordCommand_toNat (s : State) (rd rs1 : RReg) (f : Word → Word) :
    ∃ t, wordCommand rd rs1 f s = .next t ∧ WritesR s t [rd] ∧ KeepsFlags s t ∧
      t.data.r[rd].toNat = (f (low32 (s.readR rs1))).toNat := by
  obtain ⟨t, hexec, hframe, hflags, hval⟩ := wordCommand_spec s rd rs1 f
  exact ⟨t, hexec, hframe, hflags, hval ▸ BitVec.toNat_setWidth_of_le (by decide)⟩

/-! ### Blocks as four words (R301) -/

@[simp] theorem ofBits_toBits (q : Quad) : Quad.ofBits q.toBits = q := by
  simp only [Quad.ofBits, Quad.toBits]
  congr 1 <;> repeat rw [BitVec.extractLsb'_append_eq_of_le (by decide)]
  · exact BitVec.extractLsb'_eq_self
  all_goals exact BitVec.extractLsb'_append_eq_right

@[simp] theorem toBits_ofBits (b : BitVec 128) : (Quad.ofBits b).toBits = b := by
  simp only [Quad.toBits, Quad.ofBits]
  repeat rw [BitVec.extractLsb'_append_extractLsb'_eq_extractLsb' (by rfl)]
  exact BitVec.extractLsb'_eq_self

@[simp] theorem Quad.reverse_reverse (q : Quad) : q.reverse.reverse = q := rfl

/-- A word of a block is the register's (R301). -/
theorem extractLsb'_low128 (v : W256) {k : Nat} (h : k ≤ 96) :
    (low128 v).extractLsb' k 32 = v.extractLsb' k 32 :=
  BitVec.extractLsb'_extractLsb'_of_le (by omega)

/-- The low half of a zero-extended block is the block (R301). -/
theorem low128_setWidth (b : BitVec 128) : low128 (b.setWidth 256) = b := by
  rw [low128, BitVec.extractLsb'_setWidth_of_le (by decide), BitVec.extractLsb'_eq_self]

theorem toNat_low128 (v : W256) : (low128 v).toNat = v.toNat % 2 ^ 128 := by
  simp [low128, BitVec.extractLsb'_toNat]

/-! ### Decryption inverts encryption (R308) -/

/-- A round with the same key undoes a round on the reversed words: it XORs the same T into the same word
again (R312). -/
theorem sm4Round_reverse (q : Quad) (k : Word) : sm4Round (sm4Round q k).reverse k = q.reverse := by
  have hx (a b c : Word) : c ^^^ b ^^^ a = a ^^^ b ^^^ c := by ac_rfl
  simp [sm4Round, Quad.reverse, Quad.shift, hx, BitVec.xor_assoc]

/-- The rounds with the keys in reverse order undo the rounds on the reversed words. -/
theorem foldl_sm4Round_reverse (keys : List Word) (q : Quad) :
    keys.reverse.foldl sm4Round (keys.foldl sm4Round q).reverse = q.reverse := by
  induction keys generalizing q with
  | nil => rfl
  | cons k ks ih =>
    simp only [List.reverse_cons, List.foldl_append, List.foldl_cons, List.foldl_nil, ih,
      sm4Round_reverse]

/-- Crypt with the reversed keys inverts Crypt (R307, R308). -/
theorem crypt_crypt_reverse (x : BitVec 128) (keys : List Word) :
    crypt (crypt x keys) keys.reverse = x := by
  simp only [crypt, ofBits_toBits, foldl_sm4Round_reverse, Quad.reverse_reverse, toBits_ofBits]

theorem decryptBlock_encryptBlock (rk : Vector Word 32) (x : BitVec 128) :
    decryptBlock rk (encryptBlock rk x) = x := crypt_crypt_reverse x rk.toList

theorem encryptBlock_decryptBlock (rk : Vector Word 32) (x : BitVec 128) :
    encryptBlock rk (decryptBlock rk x) = x := by
  rw [encryptBlock, ← List.reverse_reverse rk.toList]
  exact crypt_crypt_reverse x rk.toList.reverse

/-- Two block commands in turn, the second inverting the first, give the low half of the register back. -/
theorem blockCommand_inverse {s : State} (hsrc : s.src = s.data) (hkeyv : s.data.keyv = true)
    (a b c : RReg) {f g : Vector Word 32 → BitVec 128 → BitVec 128}
    (hinv : ∀ rk x, g rk (f rk x) = x) :
    ∃ t u, blockCommand b a f s = .next t ∧ blockCommand c b g t = .next u ∧
      u.data.r[c].toNat = s.data.r[a].toNat % 2 ^ 128 := by
  obtain ⟨t, hexec, hframe, -, hval⟩ := blockCommand_spec (hsrc ▸ hkeyv) b a f
  have hsrct : t.src = t.data := src_of_none hframe.inflight
  obtain ⟨hrk, hkeyvt⟩ := hframe.keys
  obtain ⟨u, hexecu, -, -, hvalu⟩ :=
    blockCommand_spec (s := t) (by rw [hsrct, hkeyvt, hkeyv]) c b g
  refine ⟨t, u, hexec, hexecu, ?_⟩
  calc u.data.r[c].toNat
      = (g s.src.rk (low128 t.data.r[b])).toNat := by
        rw [hvalu, BitVec.toNat_setWidth_of_le (by decide), State.readR, hsrct, hrk, hsrc]
    _ = (low128 (s.readR a)).toNat := by rw [hval, low128_setWidth, hinv]
    _ = s.data.r[a].toNat % 2 ^ 128 := by rw [toNat_low128, State.readR, hsrc]

/-- Settles O58: the rounds on the reversed words with the keys in the other order go back. -/
theorem decryptionInvertsEncryption : Obligations.DecryptionInvertsEncryption := fun a b c _ hsrc hkeyv =>
  ⟨blockCommand_inverse hsrc hkeyv a b c decryptBlock_encryptBlock,
    blockCommand_inverse hsrc hkeyv a b c encryptBlock_decryptBlock⟩

/-! ### The words of a shifting Feistel sequence (R306, R307, R312) -/

/-- The four words before round n, where round i shifts in the word `next i`. -/
def Quad.run (next : Nat → Quad → Word) (q : Quad) : Nat → Quad
  | 0 => q
  | n + 1 => (q.run next n).shift (next n (q.run next n))

/-- Word n of the sequence that the rounds make from the words of `q`: the first before round n. -/
def Quad.word (next : Nat → Quad → Word) (q : Quad) (n : Nat) : Word := (q.run next n).x0

/-- The words before round n stand in a row in the sequence. -/
theorem run_eq (next : Nat → Quad → Word) (q : Quad) (n : Nat) :
    q.run next n = ⟨q.word next n, q.word next (n + 1), q.word next (n + 2), q.word next (n + 3)⟩ := rfl

/-- Round n makes word n + 4 from the four before it. -/
theorem word_add_four (next : Nat → Quad → Word) (q : Quad) (n : Nat) :
    q.word next (n + 4) =
      next n ⟨q.word next n, q.word next (n + 1), q.word next (n + 2), q.word next (n + 3)⟩ := rfl

/-! ### Key expansion (R304 to R306) -/

/-- The round constants as R305 prints them. -/
theorem ck_eq : ∀ i : Fin 32, ck i.val = BitVec.ofNat 32
    (((4 * i.val) * 7 % 256) * 2 ^ 24 + ((4 * i.val + 1) * 7 % 256) * 2 ^ 16 +
      ((4 * i.val + 2) * 7 % 256) * 2 ^ 8 + (4 * i.val + 3) * 7 % 256) := by decide

/-- From round i on the round keys are the words of the sequence from i + 4 on (R306). -/
theorem getD_roundKeysFrom (q : Quad) {n j : Nat} (hj : j < n) (i : Nat) :
    (roundKeysFrom n i (q.run keyWord i)).getD j 0 = q.word keyWord (i + j + 4) := by
  induction n generalizing i j with
  | zero => omega
  | succ n ih =>
    cases j with
    | zero => rfl
    | succ j =>
      rw [← Nat.succ_add_eq_add_succ i j]
      exact ih (Nat.lt_of_succ_lt_succ hj) (i + 1)

theorem getElem_keyExp (mk : BitVec 128) (i : Fin 32) :
    (keyExp mk)[i] = (keyStart mk).word keyWord (i.val + 4) := by
  have hkey := getD_roundKeysFrom (keyStart mk) i.isLt 0
  rw [Nat.zero_add] at hkey
  rw [← hkey, Fin.getElem_fin, keyExp, Vector.getElem_ofFn]
  rfl

/-- A command that only loads round keys: the keys, KEYV and the frame (R320). -/
theorem succeed_setKeys_spec (s : State) (rk : Vector Word 32) :
    ∃ t, succeed (s.setKeys rk) = .next t ∧ WritesKeys s t ∧ t.data.keyv = true ∧ t.data.rk = rk :=
  ⟨_, rfl, writesKeys_finish s rk, setKeys_data_keyv s rk, setKeys_data_rk s rk⟩

/-- Settles O56: the round keys are the words that the rounds of the key schedule shift in. -/
theorem sm4keyExpandsKey : Obligations.Sm4keyExpandsKey := by
  intro rs1 s
  refine ⟨encode_and_mask rfl (opOf_cmdWord ..) rfl, ?_⟩
  obtain ⟨t, hexec, hframe, hkeyv, hrk⟩ := succeed_setKeys_spec s (keyExp (low128 (s.readR rs1)))
  have hstart {k : Nat} (h : k ≤ 96) (fk : Word) :=
    congrArg (· ^^^ fk) (extractLsb'_low128 (s.readR rs1) h)
  refine ⟨t, (keyStart (low128 (s.readR rs1))).word keyWord, hexec, hframe, hkeyv,
    hstart (by decide) _, hstart (by decide) _, hstart (by decide) _, hstart (by decide) _,
    fun i => ?round⟩
  case round =>
    rw [← ck_eq i, hrk]
    exact ⟨word_add_four keyWord _ i.val, getElem_keyExp _ i⟩

/-! ### The rounds of a block (R307) -/

/-- The word that round n shifts in, with the round keys of a list (R307). -/
def blockWord (keys : List Word) (n : Nat) (q : Quad) : Word :=
  q.x0 ^^^ roundT (q.x1 ^^^ q.x2 ^^^ q.x3 ^^^ keys.getD n 0)

/-- The rounds with the first n keys. -/
theorem foldl_take_sm4Round {keys : List Word} (q : Quad) {n : Nat} (hn : n ≤ keys.length) :
    (keys.take n).foldl sm4Round q = q.run (blockWord keys) n := by
  induction n with
  | zero => rfl
  | succ n ih =>
    rw [List.take_succ_eq_append_getElem hn, List.foldl_append, ih (by omega), Quad.run, blockWord,
      List.getD_eq_getElem keys 0 hn]
    rfl

/-- Crypt gives the last four words in reverse order (R307). -/
theorem crypt_eq {keys : List Word} (hlen : keys.length = 32) (x : BitVec 128) :
    let X := (Quad.ofBits x).word (blockWord keys)
    crypt x keys = X 35 ++ X 34 ++ X 33 ++ X 32 := by
  have hrounds := foldl_take_sm4Round (Quad.ofBits x) hlen.ge
  rw [List.take_of_length_le hlen.le, run_eq] at hrounds
  rw [crypt, hrounds]
  rfl

/-- The first four words are the block's (R301). -/
theorem word_ofBits_low128 (next : Nat → Quad → Word) (v : W256) {n : Nat} (hn : n < 4) :
    (Quad.ofBits (low128 v)).word next n = v.extractLsb' (96 - 32 * n) 32 := by
  rw [← extractLsb'_low128 v (by omega)]
  interval_cases n <;> rfl

/-- Both block commands run Crypt, with the round keys in the order of the command (R308). -/
theorem exec_block_eq {rd rs1 : RReg} {s : State} {i : Instr} {key : Fin 32 → Word}
    (h : (i = .sm4enc rd rs1 ∧ ∀ n, key n = s.src.rk[n]) ∨
      (i = .sm4dec rd rs1 ∧ ∀ n : Fin 32, key n = s.src.rk[31 - n.val])) :
    ∃ f, ∃ keys : List Word, exec i s = blockCommand rd rs1 f s ∧ (∀ x, f s.src.rk x = crypt x keys) ∧
      keys.length = 32 ∧ ∀ n : Fin 32, keys.getD n.val 0 = key n := by
  obtain ⟨rfl, hkey⟩ | ⟨rfl, hkey⟩ := h
  · refine ⟨encryptBlock, s.src.rk.toList, rfl, fun _ => rfl, Vector.length_toList, fun n => ?_⟩
    simp [hkey]
  · refine ⟨decryptBlock, s.src.rk.toList.reverse, rfl, fun _ => rfl, by simp, fun n => ?_⟩
    simp [hkey]

/-- A zero-extended block has a zero high half (R301). -/
theorem setWidth_eq_zero_append (b : BitVec 128) : b.setWidth 256 = (0 : BitVec 128) ++ b := by
  apply BitVec.eq_of_toNat_eq
  rw [BitVec.toNat_setWidth_of_le (by decide), BitVec.ofNat_eq_ofNat, BitVec.toNat_append]
  simp

/-- Settles O57: the words that the rounds shift in are those of Crypt. -/
theorem blockCommandsRunTheRounds : Obligations.BlockCommandsRunTheRounds := by
  intro rd rs1 s i key h
  obtain ⟨f, keys, hexec, hcrypt, hlen, hkeys⟩ := exec_block_eq h
  rw [hexec]
  refine ⟨encode_and_mask rfl (opOf_cmdWord ..) rfl, encode_and_mask rfl (opOf_cmdWord ..) rfl,
    fun hkeyv => blockCommand_noKey hkeyv rd rs1 f, fun hkeyv => ?_⟩
  obtain ⟨t, hblock, hframe, hflags, hval⟩ := blockCommand_spec hkeyv rd rs1 f
  refine ⟨t, (Quad.ofBits (low128 (s.readR rs1))).word (blockWord keys), hblock, hframe, hflags,
    fun n => word_ofBits_low128 _ _, fun n => ?round, ?block⟩
  case round =>
    rw [word_add_four, blockWord, hkeys]
    rfl
  case block => rw [hval, hcrypt, crypt_eq hlen, setWidth_eq_zero_append]

/-! ### The word commands (R302, R303, R323 to R327) -/

/-- Settles O59: the commands are the word commands of τ, L, L′ and their compositions. -/
theorem wordCommandsAreTransforms : Obligations.WordCommandsAreTransforms := by
  intro rd rs1 s
  exact ⟨wordCommand_toNat s rd rs1 roundT, wordCommand_toNat s rd rs1 roundTK,
    wordCommand_toNat s rd rs1 tau, wordCommand_toNat s rd rs1 diffL, wordCommand_toNat s rd rs1 diffLK,
    encode_and_mask rfl (opOf_cmdWord ..) rfl, encode_and_mask rfl (opOf_cmdWord ..) rfl,
    encode_and_mask rfl (opOf_cmdWord ..) rfl, encode_and_mask rfl (opOf_cmdWord ..) rfl,
    encode_and_mask rfl (opOf_cmdWord ..) rfl⟩

/-! ### The S-box (R300, R311) -/

/-- A byte is put together from its two hexadecimal digits. -/
theorem ofNat_digits (v : W256) : BitVec.ofNat 8
    (16 * (v.extractLsb' 4 4).toNat + (v.extractLsb' 0 4).toNat) = v.extractLsb' 0 8 := by
  apply BitVec.eq_of_toNat_eq
  simp only [BitVec.toNat_ofNat, BitVec.extractLsb'_toNat, Nat.shiftRight_eq_div_pow]
  omega

/-- SM4SB gives the lowest byte the S-box value (R302, R325). -/
theorem extractLsb'_sm4sb (rd rs1 : RReg) (s : State) : ∃ t, exec (.sm4sb rd rs1) s = .next t ∧
    t.data.r[rd].extractLsb' 0 8 = sbox ((s.readR rs1).extractLsb' 0 8) := by
  obtain ⟨t, hexec, -, -, hval⟩ := wordCommand_spec s rd rs1 tau
  refine ⟨t, hexec, ?_⟩
  rw [hval, BitVec.extractLsb'_setWidth_of_le (by decide), tau, BitVec.extractLsb'_append_eq_right,
    beByte, low32, BitVec.extractLsb'_extractLsb'_of_le (by decide)]

/-- The S-box listed by rows and columns (R300). -/
def sboxTable : List (List Byte) :=
  (List.range 16).map fun hi => (List.range 16).map fun lo => sbox (BitVec.ofNat 8 (16 * hi + lo))

theorem getD_sboxTable (hi lo : Fin 16) :
    (sboxTable.getD hi.val []).getD lo.val 0 = sbox (BitVec.ofNat 8 (16 * hi.val + lo.val)) := by
  simp [sboxTable]

/-- SM4SB reads the table at the two digits of the lowest byte. -/
theorem sm4sb_reads_sboxTable (rd rs1 : RReg) (s : State) : ∃ t, exec (.sm4sb rd rs1) s = .next t ∧
    t.data.r[rd].extractLsb' 0 8 = (sboxTable.getD ((s.readR rs1).extractLsb' 4 4).toNat []).getD
      ((s.readR rs1).extractLsb' 0 4).toNat 0 := by
  obtain ⟨t, hexec, hval⟩ := extractLsb'_sm4sb rd rs1 s
  refine ⟨t, hexec, ?_⟩
  rw [hval, ← ofNat_digits]
  exact (getD_sboxTable ((s.readR rs1).extractLsb' 4 4).toFin
    ((s.readR rs1).extractLsb' 0 4).toFin).symm

/-- The inverse of the S-box as one number: the byte at place `sbox a` is `a`. -/
def sboxInverse : Nat :=
  ((List.range 256).map fun a => a <<< (8 * (sbox (BitVec.ofNat 8 a)).toNat)).sum

/-- The number holds at place b a byte that the S-box takes to b. -/
theorem sbox_sboxInverse : ∀ b : Byte, sbox (BitVec.ofNat 8 (sboxInverse >>> (8 * b.toNat))) = b := by
  decide +kernel

/-- Every byte is in the table, so none is there twice (R311). -/
theorem sbox_bijective : Function.Bijective sbox :=
  Finite.surjective_iff_bijective.1 fun b => ⟨_, sbox_sboxInverse b⟩

/-! ### The diffusions as matrices over GF(2) (R311) -/

/-- Bit i of a rotated word, whose bits are read modulo 32. -/
theorem getLsbD_rotateLeft_word (b : Word) {k i : Nat} (hk : k < 32) (hi : i < 32) :
    (b.rotateLeft k).getLsbD i = b.getLsbD ((i + (32 - k)) % 32) := by
  rw [BitVec.getLsbD_rotateLeft, Nat.mod_eq_of_lt hk]
  rcases lt_or_ge i k with h | h
  · rw [decide_eq_true h, cond_true, Nat.mod_eq_of_lt (by omega), Nat.add_comm]
  · rw [decide_eq_false (by omega), decide_eq_true hi, cond_false, Bool.true_and]
    congr 1
    omega

/-- Row i of the matrix of L (R311). -/
theorem getLsbD_diffL (b : Word) {i : Nat} (hi : i < 32) :
    (diffL b).getLsbD i = (b.getLsbD i ^^ b.getLsbD ((i + 30) % 32) ^^ b.getLsbD ((i + 22) % 32) ^^
      b.getLsbD ((i + 14) % 32) ^^ b.getLsbD ((i + 8) % 32)) := by
  simp only [diffL, BitVec.getLsbD_xor, getLsbD_rotateLeft_word, hi, Nat.reduceLT, Nat.reduceSub]

/-- Row i of the matrix of L′ (R311). -/
theorem getLsbD_diffLK (b : Word) {i : Nat} (hi : i < 32) :
    (diffLK b).getLsbD i =
      (b.getLsbD i ^^ b.getLsbD ((i + 19) % 32) ^^ b.getLsbD ((i + 9) % 32)) := by
  simp only [diffLK, BitVec.getLsbD_xor, getLsbD_rotateLeft_word, hi, Nat.reduceLT, Nat.reduceSub]

theorem rotateLeft_xor (b c : Word) {k : Nat} (hk : k < 32) :
    (b ^^^ c).rotateLeft k = b.rotateLeft k ^^^ c.rotateLeft k := by
  apply BitVec.eq_of_getLsbD_eq
  intro i hi
  simp only [BitVec.getLsbD_xor, getLsbD_rotateLeft_word _ hk hi]

theorem diffL_xor (b c : Word) : diffL (b ^^^ c) = diffL b ^^^ diffL c := by
  simp only [diffL, rotateLeft_xor, Nat.reduceLT]
  ac_rfl

theorem diffLK_xor (b c : Word) : diffLK (b ^^^ c) = diffLK b ^^^ diffLK c := by
  simp only [diffLK, rotateLeft_xor, Nat.reduceLT]
  ac_rfl

/-- Bit i of a register's low word is the register's. -/
theorem getLsbD_low32 (v : W256) {i : Nat} (hi : i < 32) : (low32 v).getLsbD i = v.getLsbD i := by
  simp [low32, hi]

/-- Bit i of a zero-extended word is the word's. -/
theorem getLsbD_setWidth_word {w : Word} {i : Nat} (hi : i < 32) :
    (w.setWidth 256).getLsbD i = w.getLsbD i := by
  rw [BitVec.getLsbD_setWidth, decide_eq_true (by omega), Bool.true_and]

/-- A linear word command adds up over the operands. -/
theorem wordCommand_linear {f : Word → Word} (hf : ∀ b c, f (b ^^^ c) = f b ^^^ f c) {s : State}
    {rs1 rs2 rs3 : RReg} (h : s.readR rs1 = s.readR rs2 ^^^ s.readR rs3) :
    (f (low32 (s.readR rs1))).setWidth 256 =
      (f (low32 (s.readR rs2))).setWidth 256 ^^^ (f (low32 (s.readR rs3))).setWidth 256 := by
  rw [h, low32, BitVec.extractLsb'_xor, hf, BitVec.setWidth_xor]
  rfl

/-- Settles O60: the table and the permutation by evaluating the S-box, the matrices by the bits of a
rotation. -/
theorem sboxPermutesAndDiffusionIsMatrix : Obligations.SboxPermutesAndDiffusionIsMatrix := by
  refine ⟨?table, ⟨sbox_bijective, by decide, by decide, by decide⟩, fun rd rs1 rs2 rs3 s => ?matrix⟩
  case table =>
    intro table
    have htable : table = sboxTable := by decide +kernel
    rw [htable]
    exact ⟨fun hi lo => (getD_sboxTable hi lo).symm, sm4sb_reads_sboxTable⟩
  case matrix =>
    obtain ⟨t, hl, -, -, ht⟩ := wordCommand_spec s rd rs1 diffL
    obtain ⟨u, hlk, -, -, hu⟩ := wordCommand_spec s rd rs1 diffLK
    refine ⟨t, u, hl, hlk, fun i => ⟨?l, ?lk⟩, fun hxor => ?linear⟩
    case l =>
      rw [ht, getLsbD_setWidth_word i.isLt, getLsbD_diffL _ i.isLt]
      simp only [getLsbD_low32, i.isLt, Nat.mod_lt _ (by decide : 32 > 0)]
    case lk =>
      rw [hu, getLsbD_setWidth_word i.isLt, getLsbD_diffLK _ i.isLt]
      simp only [getLsbD_low32, i.isLt, Nat.mod_lt _ (by decide : 32 > 0)]
    case linear =>
      obtain ⟨t₂, hl₂, -, -, ht₂⟩ := wordCommand_spec s rd rs2 diffL
      obtain ⟨t₃, hl₃, -, -, ht₃⟩ := wordCommand_spec s rd rs3 diffL
      obtain ⟨u₂, hlk₂, -, -, hu₂⟩ := wordCommand_spec s rd rs2 diffLK
      obtain ⟨u₃, hlk₃, -, -, hu₃⟩ := wordCommand_spec s rd rs3 diffLK
      refine ⟨t₂, t₃, u₂, u₃, hl₂, hl₃, hlk₂, hlk₃, ?_, ?_⟩
      · rw [ht, ht₂, ht₃, wordCommand_linear diffL_xor hxor]
      · rw [hu, hu₂, hu₃, wordCommand_linear diffLK_xor hxor]

end Sys2Proof.Machine
end

section
/-! SUPPORT. Which errors a command can raise and when, the commands a pending error keeps out, and the level
of IRQ (spec R73, R400 to R403, R408, R410, R412, R450). -/

namespace Sys2Proof.Machine

/-! ### Success or one error (R400, R403) -/

theorem Completion.succeeds_or_fails {s : State} {r : Result} (h : Completion s r) :
    ∃ t, r = .next t ∧ (Succeeds s t ∨ ∃ e, Fails e s t) := by
  cases h with
  | success d keys => exact ⟨_, rfl, .inl (succeeds_finish s d)⟩
  | error e => exact ⟨_, rfl, .inr ⟨e, fails_raised e s⟩⟩

/-- Settles O8: every command ends with a `Completion`. -/
theorem completionIsSuccessOrOneError : Obligations.CompletionIsSuccessOrOneError :=
  fun i s => (exec_completion i s).succeeds_or_fails

/-! ### The conditions of the errors (R401, R402, R408) -/

/-- R401's row of an error: the commands that can raise it in `s`, and when. -/
def CmdError.RaisedBy (e : CmdError) (i : Instr) (s : State) : Prop :=
  match e with
  | .illegal => i.wf = false
  | .noKey => s.src.keyv = false ∧ ∃ rd rs1, i = .sm4enc rd rs1 ∨ i = .sm4dec rd rs1
  | .divZero => ∃ rd rs1 rs2 m, s.natR m = 0 ∧
      (i = .madd rd rs1 rs2 m ∨ i = .msub rd rs1 rs2 m ∨ i = .mmul rd rs1 rs2 m ∨
        i = .msqr rd rs1 m ∨ i = .minv rd rs1 m ∨ i = .mpow rd rs1 rs2 m ∨ i = .mred rd rs1 m)
  | .invZero => ∃ rd rs1 m,
      (i = .minv rd rs1 m ∧ s.natR m ≠ 0 ∧ s.natR rs1 % s.natR m = 0) ∨
      (i = .finv rd rs1 ∧ s.natR rs1 % Config.SM2_p = 0)

/-- The completions from `s` whose error, if there is one, is one that `P` allows. -/
inductive RaisesOnly (P : CmdError → Prop) (s : State) : Result → Prop where
  | success (d : Data) : RaisesOnly P s (.next { s with data := d }.finish)
  | error (e : CmdError) (h : P e) : RaisesOnly P s (.next (s.raised e))

section
variable {P : CmdError → Prop} {s : State}

theorem raisesOnly_withPair {k : RPair} {body : Result} (hodd : pairEven k = false → P .illegal)
    (hbody : RaisesOnly P s body) : RaisesOnly P s (withPair k s body) := by
  cases hk : pairEven k
  · rw [withPair_odd hk]
    exact .error _ (hodd hk)
  · rw [withPair_even hk]
    exact hbody

theorem raisesOnly_modular {rs3 : RReg} (hzero : s.natR rs3 = 0 → P .divZero) (rd : RReg)
    (f : Nat → Nat) : RaisesOnly P s (modular rd rs3 f s) := by
  by_cases hm : s.natR rs3 = 0
  · rw [modular_zero hm]
    exact .error _ (hzero hm)
  · rw [modular_nonzero hm]
    exact .success _

/-- MINV looks at the modulus first, so INV_ZERO says that it is not 0 (R408). -/
theorem raisesOnly_minv {rs1 rs3 : RReg} (hzero : s.natR rs3 = 0 → P .divZero)
    (hinv : s.natR rs3 ≠ 0 → s.natR rs1 % s.natR rs3 = 0 → P .invZero) (rd : RReg) :
    RaisesOnly P s (execMinv rd rs1 rs3 s) := by
  unfold execMinv
  dsimp only
  split
  next h => exact .error _ (hinv h.1 h.2)
  next => exact raisesOnly_modular hzero rd _

theorem raisesOnly_finv {rs1 : RReg} (hinv : fp (s.natR rs1) = 0 → P .invZero) (rd : RReg) :
    RaisesOnly P s (execFinv rd rs1 s) := by
  unfold execFinv
  dsimp only
  split
  next h => exact .error _ (hinv h)
  next => exact .success _

theorem raisesOnly_blockCommand (hkey : s.src.keyv = false → P .noKey) (rd rs1 : RReg)
    (f : Vector Word 32 → BitVec 128 → BitVec 128) : RaisesOnly P s (blockCommand rd rs1 f s) := by
  unfold blockCommand
  split
  next => exact .success _
  next h => exact .error _ (hkey (Bool.eq_false_of_not_eq_true h))

theorem raisesOnly_pst {rdp : RPair} (hodd : pairEven rdp = false → P .illegal) (ps1 : PReg) :
    RaisesOnly P s (execPst rdp ps1 s) := by
  refine raisesOnly_withPair hodd ?_
  split
  · exact .success _
  · exact .success _

end

/-- Every command raises only the errors that R401 lists for it. -/
theorem exec_raisesOnly (i : Instr) (s : State) : RaisesOnly (·.RaisedBy i s) s (exec i s) := by
  cases i with
  | nop | mov | ldc | ldi | add | sub | cmp | bitlen | getbit | shl1 | shr1 | and =>
    exact .success _
  | fadd | fsub | fmul | fsqr | fneg | fnorm => exact .success _
  | pld | pinf | pldg | pchk | pneg | padd | pdbl | pmul | peq | jfrom | jtoa | jdbl | jaddm =>
    exact .success _
  | sm3init | sm3rd | sm3wr | sm4key | sm4t | sm4tk | sm4sb | sm4l | sm4lk => exact .success _
  | mul | sqr | fred | sm3cf => exact raisesOnly_withPair id (.success _)
  | pst => exact raisesOnly_pst id _
  | madd rd rs1 rs2 rs3 | msub rd rs1 rs2 rs3 | mmul rd rs1 rs2 rs3 | mpow rd rs1 rs2 rs3 =>
    exact raisesOnly_modular (fun hm => ⟨rd, rs1, rs2, rs3, hm, by simp⟩) _ _
  | msqr rd rs1 rs3 => exact raisesOnly_modular (fun hm => ⟨rd, rs1, 0, rs3, hm, by simp⟩) _ _
  | mred rd rs1p rs3 =>
    exact raisesOnly_withPair id (raisesOnly_modular (fun hm => ⟨rd, rs1p, 0, rs3, hm, by simp⟩) _ _)
  | minv rd rs1 rs3 =>
    exact raisesOnly_minv (fun hm => ⟨rd, rs1, 0, rs3, hm, by simp⟩)
      (fun hm ha => ⟨rd, rs1, rs3, .inl ⟨rfl, hm, ha⟩⟩) rd
  | finv rd rs1 => exact raisesOnly_finv (fun ha => ⟨rd, rs1, 0, .inr ⟨rfl, ha⟩⟩) rd
  | sm4enc rd rs1 => exact raisesOnly_blockCommand (fun hk => ⟨hk, rd, rs1, .inl rfl⟩) rd rs1 _
  | sm4dec rd rs1 => exact raisesOnly_blockCommand (fun hk => ⟨hk, rd, rs1, .inr rfl⟩) rd rs1 _

/-- Settles O9: a completion that sets ERR raises one of the errors listed for the command. -/
theorem errorsComeFromTheirCommands : Obligations.ErrorsComeFromTheirCommands := by
  intro i s t herr hexec hset
  have h : RaisesOnly (·.RaisedBy i s) s (.next t) := hexec ▸ exec_raisesOnly i s
  cases h with
  | success d => exact absurd (hset.symm.trans herr) (by decide)
  | error e hcond =>
    cases e with
    | illegal => exact .inl ⟨rfl, hcond⟩
    | noKey => exact .inr (.inl ⟨rfl, hcond⟩)
    | divZero => exact .inr (.inr (.inl ⟨rfl, hcond⟩))
    | invZero => exact .inr (.inr (.inr ⟨rfl, hcond⟩))

/-! ### Submission after an error (R73, R410) -/

/-- A CMD write with ERR = 1 is dropped and sets OVR (R410). -/
theorem busWrite_cmd_err {s : State} (he : s.err = true) (w : Word) :
    s.busWrite 12#12 32 w = { s with ovr := true }.answer true none := by
  rw [busWrite_cmd, submit_eq, if_neg (by simp [he])]

/-- A CMD write with BUSY = 0 and ERR = 0 is accepted (R73). -/
theorem busWrite_cmd_idle {s : State} (hb : s.busy = false) (he : s.err = false) (w : Word) :
    s.busWrite 12#12 32 w = (s.accept w).answer true none := by
  rw [busWrite_cmd, submit_eq, if_pos ⟨hb, he⟩]

/-- Settles O21: a CMD write with ERR = 1 is dropped, and with ERR cleared it is accepted. -/
theorem errorBlocksUntilCleared : Obligations.ErrorBlocksUntilCleared := by
  intro s w v herr
  refine ⟨busWrite_cmd_err herr w, fun hb hv => ?_⟩
  intro t
  have ht : t = (s.clearStatus v).answer true none := busWrite_status s v
  have hnoErr : t.err = false := by simp [ht, hv]
  have hidle : t.busy = false := by simp [ht, hb]
  have hcmd : t.busWrite 0x00C 32 w = (t.accept w).answer true none := busWrite_cmd_idle hidle hnoErr w
  rw [hcmd]
  exact ⟨hnoErr, by simp [ht, hv], by simp [ht], by simp [ht], rfl⟩

/-! ### The interrupt output (R412) -/

theorem irq_of_not_done {s : State} (h : s.done = false) : s.irq = false := by
  simp [State.irq, h]

/-- The reset input asserted and deasserted leaves the block at its reset values (R450). -/
theorem setResetInput_pulse (s : State) :
    (s.setResetInput true).setResetInput false = { s.resetBlock with inReset := false } := rfl

/-- Settles O22: DONE after each of the ways to clear it, and IE after a CTRL write. -/
theorem irqFollowsDoneAndEnable : Obligations.IrqFollowsDoneAndEnable := by
  intro s w
  refine ⟨rfl, fun hw1c => ?clear, fun hb he => ?accept, fun hsrst => ?softReset, ?resetInput,
    fun hie => ?enable⟩
  case clear =>
    have hwrite : s.busWrite 0x008 32 w = (s.clearStatus w).answer true none := busWrite_status s w
    rw [hwrite]
    exact irq_of_not_done (by simp [hw1c])
  case accept =>
    have hwrite : s.busWrite 0x00C 32 w = (s.accept w).answer true none := busWrite_cmd_idle hb he w
    rw [hwrite]
    exact irq_of_not_done rfl
  case softReset =>
    have hwrite : s.busWrite 0x004 32 w = s.resetBlock.answer true none :=
      writeCtrl_srst hsrst s ▸ busWrite_ctrl s w
    rw [hwrite]
    exact irq_of_not_done rfl
  case resetInput => exact setResetInput_pulse s ▸ irq_of_not_done rfl
  case enable =>
    have hwrite : s.busWrite 0x004 32 w = { s with ie := w.getLsbD 0 }.answer true none :=
      writeCtrl_ie hie s ▸ busWrite_ctrl s w
    rw [hwrite]
    rfl

end Sys2Proof.Machine
end

section
/-! SUPPORT. Resets with a command in flight: what the two resets leave, what the block ignores while the reset
input is asserted, and that the aborted command does not complete (spec R450, R452, R453). -/

namespace Sys2Proof.Machine

/-! ### While the reset input is asserted (R450) -/

theorem setResetInput_true (s : State) :
    s.setResetInput true = { s.resetBlock with inReset := true } := rfl

/-- Deassertion ends a reset. -/
theorem setResetInput_false_of_inReset {s : State} (h : s.inReset = true) :
    s.setResetInput false = { s.resetBlock with inReset := false } := if_pos h

/-- Without a reset to end, deassertion does nothing. -/
theorem setResetInput_false_of_running {s : State} (h : s.inReset = false) :
    s.setResetInput false = s := if_neg (by simp [h])

/-- A transaction during a reset reaches only the platform's side: its answer and the count of draws. -/
theorem answerInReset_keeps_block (s : State) (isRead : Bool) :
    s.answerInReset isRead =
      { s with response := (s.answerInReset isRead).response, draws := (s.answerInReset isRead).draws } := rfl

/-! ### The aborted command (R453) -/

/-- With no command in flight a completion event does nothing, in and out of reset. -/
theorem react_complete_of_idle {s : State} (h : s.inflight = none) : react .complete s = .next s := by
  cases hr : s.inReset with
  | true => exact react_inReset hr .complete
  | false => exact (react_running hr .complete).trans (completeInFlight_none h)

/-- A CTRL write with SRST = 1 is answered OKAY and resets the block (R41, R452). -/
theorem busWrite_ctrl_srst {w : Word} (h : w.getLsbD 1 = true) (s : State) :
    s.busWrite 4#12 32 w = s.resetBlock.answer true none :=
  (busWrite_ctrl s w).trans (congrArg (State.answer · true none) (writeCtrl_srst h s))

/-- Settles O25: both resets leave no command in flight, and during the reset input every event but its
deassertion leaves the block alone. -/
theorem resetAbortsCommandInFlight : Obligations.ResetAbortsCommandInFlight := by
  intro s w
  refine ⟨?resetInput, fun hr => ?deassertedAgain, fun hsrst _ => ?softReset⟩
  case resetInput =>
    intro t
    have hin : t.inReset = true := rfl
    have hidle : t.inflight = none := rfl
    refine ⟨setResetInput_true s, react_complete_of_idle hidle, fun off size => ?read,
      fun off size data => ?write, ?deasserted⟩
    case read => exact ⟨_, react_inReset hin (.read off size), answerInReset_keeps_block t true⟩
    case write => exact ⟨_, react_inReset hin (.write off size data), answerInReset_keeps_block t false⟩
    case deasserted =>
      exact ⟨_, react_inReset hin (.resetInput false), setResetInput_false_of_inReset hin⟩
  case deassertedAgain =>
    exact (react_running hr (.resetInput false)).trans
      (congrArg Host.Outcome.next (setResetInput_false_of_running hr))
  case softReset =>
    intro t
    have ht : t = s.resetBlock.answer true none := busWrite_ctrl_srst hsrst s
    have hidle : t.inflight = none := ht ▸ rfl
    exact ⟨ht ▸ rfl, ht ▸ rfl, hidle, react_complete_of_idle hidle⟩

end Sys2Proof.Machine
end
